-- ==== Sys2Proof/Word.lean ====
section
/-! DEFINITION. The word types of the SC416 (spec/10 R194 gives the widths on the wire). -/

namespace Sys2Proof

/-- One byte on the wire (R194). -/
abbrev Byte := BitVec 8

/-- A value, low, high, tag or margin: a 16-bit word (R2, R194). -/
abbrev Word := BitVec 16

/-- A generation, an anchor, a version or an image sequence: 32 bits (R13, R194). -/
abbrev Gen := BitVec 32

/-- The index of one of the 256 entries (R1). -/
abbrev Index := Fin 256

/-- The number of one of the 32 slices (R9). -/
abbrev Slice := Fin 32

/-- A handle, 0 to 15 (R33). -/
abbrev Handle := Fin 16

end Sys2Proof
end

