-- ==== Sys2Proof/Syntax.lean ====
section
/-! DEFINITION. The syntax of the SC416's commands and events: one constructor of `Instr` for each
row of spec/opcode_table.json, and the names of the 40 command opcodes (R196). -/

namespace Sys2Proof

/-- The four host ports (R151). P0 is the supervisory port (R172). -/
inductive Port where
  | P0 | P1 | P2 | P3
deriving DecidableEq, Repr

/-- The commands that an opcode names (R196); `read_status` and `read_result` are port reads and not
commands (R152). -/
inductive Opcode where
  | attach
  | detach
  | setLifetimes
  | setWindows
  | getDeviceStatus
  | findTag
  | readEntry
  | readValue
  | readSlice
  | readHandle
  | anchorSet
  | anchorDrop
  | readAnchored
  | readAnchoredHandle
  | stageSet
  | stageSetHandle
  | stageDefine
  | stageRebound
  | stageRetire
  | draftView
  | draftRemove
  | draftDiscard
  | release
  | subscribe
  | subscribeSlice
  | unsubscribe
  | unsubscribeAll
  | nextChanged
  | setNoticeEnables
  | gateOn
  | gateOff
  | takeNotices
  | noticeRearm
  | noticeDone
  | noticeClear
  | saveStart
  | saveAbort
  | saveStatus
  | tableWipe
  | tableReload
deriving DecidableEq, Repr

/-- The steps of the part, one constructor for each row of spec/opcode_table.json. A row of a named
command is the part of its transaction that ends with the rise of nCS; `params` are the complete
bytes that followed the opcode byte, as sent (R151, R197). -/
inductive Instr where
  /-- NCS_FALL. nCS of port p falls (R151, R153). -/
  | ncsFall (p : Port)
  /-- READ_STATUS. The opcode byte 0x01 and `extra`, the complete bytes sent after it, are clocked on port p (R154). -/
  | readStatus (p : Port) (extra : List Byte)
  /-- READ_RESULT. The opcode byte 0x02 and `extra`, the complete bytes sent after it, are clocked on port p (R155). -/
  | readResult (p : Port) (extra : List Byte)
  /-- ATTACH. A transaction of `attach`, whose complete bytes after the opcode byte 0x10 are `params`, ends on port p (R166). -/
  | attach (p : Port) (params : List Byte)
  /-- DETACH. A transaction of `detach`, whose complete bytes after the opcode byte 0x11 are `params`, ends on port p (R168). -/
  | detach (p : Port) (params : List Byte)
  /-- SESSION_END. The arbiter grants PUp's request for the session-end operation (R167). -/
  | sessionEnd (p : Port)
  /-- SET_LIFETIMES. A transaction of `set_lifetimes`, whose complete bytes after the opcode byte 0x12 are `params`, ends on port p (R171). -/
  | setLifetimes (p : Port) (params : List Byte)
  /-- SET_WINDOWS. A transaction of `set_windows`, whose complete bytes after the opcode byte 0x13 are `params`, ends on port p (R30). -/
  | setWindows (p : Port) (params : List Byte)
  /-- GET_DEVICE_STATUS. A transaction of `get_device_status`, whose complete bytes after the opcode byte 0x14 are `params`, ends on port p (R27). -/
  | getDeviceStatus (p : Port) (params : List Byte)
  /-- FIND_TAG. A transaction of `find_tag`, whose complete bytes after the opcode byte 0x20 are `params`, ends on port p (R41). -/
  | findTag (p : Port) (params : List Byte)
  /-- READ_ENTRY. A transaction of `read_entry`, whose complete bytes after the opcode byte 0x21 are `params`, ends on port p (R42). -/
  | readEntry (p : Port) (params : List Byte)
  /-- READ_VALUE. A transaction of `read_value`, whose complete bytes after the opcode byte 0x22 are `params`, ends on port p (R43). -/
  | readValue (p : Port) (params : List Byte)
  /-- READ_SLICE. A transaction of `read_slice`, whose complete bytes after the opcode byte 0x23 are `params`, ends on port p (R44). -/
  | readSlice (p : Port) (params : List Byte)
  /-- READ_HANDLE. A transaction of `read_handle`, whose complete bytes after the opcode byte 0x24 are `params`, ends on port p (R36). -/
  | readHandle (p : Port) (params : List Byte)
  /-- ANCHOR_SET. A transaction of `anchor_set`, whose complete bytes after the opcode byte 0x28 are `params`, ends on port p (R46). -/
  | anchorSet (p : Port) (params : List Byte)
  /-- ANCHOR_DROP. A transaction of `anchor_drop`, whose complete bytes after the opcode byte 0x29 are `params`, ends on port p (R47). -/
  | anchorDrop (p : Port) (params : List Byte)
  /-- READ_ANCHORED. A transaction of `read_anchored`, whose complete bytes after the opcode byte 0x2A are `params`, ends on port p (R53). -/
  | readAnchored (p : Port) (params : List Byte)
  /-- READ_ANCHORED_HANDLE. A transaction of `read_anchored_handle`, whose complete bytes after the opcode byte 0x2B are `params`, ends on port p (R37). -/
  | readAnchoredHandle (p : Port) (params : List Byte)
  /-- STAGE_SET. A transaction of `stage_set`, whose complete bytes after the opcode byte 0x30 are `params`, ends on port p (R65). -/
  | stageSet (p : Port) (params : List Byte)
  /-- STAGE_SET_HANDLE. A transaction of `stage_set_handle`, whose complete bytes after the opcode byte 0x31 are `params`, ends on port p (R38). -/
  | stageSetHandle (p : Port) (params : List Byte)
  /-- STAGE_DEFINE. A transaction of `stage_define`, whose complete bytes after the opcode byte 0x32 are `params`, ends on port p (R68). -/
  | stageDefine (p : Port) (params : List Byte)
  /-- STAGE_REBOUND. A transaction of `stage_rebound`, whose complete bytes after the opcode byte 0x33 are `params`, ends on port p (R66). -/
  | stageRebound (p : Port) (params : List Byte)
  /-- STAGE_RETIRE. A transaction of `stage_retire`, whose complete bytes after the opcode byte 0x34 are `params`, ends on port p (R67). -/
  | stageRetire (p : Port) (params : List Byte)
  /-- DRAFT_VIEW. A transaction of `draft_view`, whose complete bytes after the opcode byte 0x38 are `params`, ends on port p (R76). -/
  | draftView (p : Port) (params : List Byte)
  /-- DRAFT_REMOVE. A transaction of `draft_remove`, whose complete bytes after the opcode byte 0x39 are `params`, ends on port p (R77). -/
  | draftRemove (p : Port) (params : List Byte)
  /-- DRAFT_DISCARD. A transaction of `draft_discard`, whose complete bytes after the opcode byte 0x3A are `params`, ends on port p (R78). -/
  | draftDiscard (p : Port) (params : List Byte)
  /-- RELEASE. A transaction of `release`, whose complete bytes after the opcode byte 0x3B are `params`, ends on port p (R87). -/
  | release (p : Port) (params : List Byte)
  /-- SUBSCRIBE. A transaction of `subscribe`, whose complete bytes after the opcode byte 0x40 are `params`, ends on port p (R127). -/
  | subscribe (p : Port) (params : List Byte)
  /-- SUBSCRIBE_SLICE. A transaction of `subscribe_slice`, whose complete bytes after the opcode byte 0x41 are `params`, ends on port p (R128). -/
  | subscribeSlice (p : Port) (params : List Byte)
  /-- UNSUBSCRIBE. A transaction of `unsubscribe`, whose complete bytes after the opcode byte 0x42 are `params`, ends on port p (R129). -/
  | unsubscribe (p : Port) (params : List Byte)
  /-- UNSUBSCRIBE_ALL. A transaction of `unsubscribe_all`, whose complete bytes after the opcode byte 0x43 are `params`, ends on port p (R130). -/
  | unsubscribeAll (p : Port) (params : List Byte)
  /-- NEXT_CHANGED. A transaction of `next_changed`, whose complete bytes after the opcode byte 0x44 are `params`, ends on port p (R136). -/
  | nextChanged (p : Port) (params : List Byte)
  /-- SET_NOTICE_ENABLES. A transaction of `set_notice_enables`, whose complete bytes after the opcode byte 0x48 are `params`, ends on port p (R137). -/
  | setNoticeEnables (p : Port) (params : List Byte)
  /-- GATE_ON. A transaction of `gate_on`, whose complete bytes after the opcode byte 0x49 are `params`, ends on port p (R140). -/
  | gateOn (p : Port) (params : List Byte)
  /-- GATE_OFF. A transaction of `gate_off`, whose complete bytes after the opcode byte 0x4A are `params`, ends on port p (R140). -/
  | gateOff (p : Port) (params : List Byte)
  /-- TAKE_NOTICES. A transaction of `take_notices`, whose complete bytes after the opcode byte 0x4B are `params`, ends on port p (R141). -/
  | takeNotices (p : Port) (params : List Byte)
  /-- NOTICE_REARM. A transaction of `notice_rearm`, whose complete bytes after the opcode byte 0x4C are `params`, ends on port p (R142). -/
  | noticeRearm (p : Port) (params : List Byte)
  /-- NOTICE_DONE. A transaction of `notice_done`, whose complete bytes after the opcode byte 0x4D are `params`, ends on port p (R143). -/
  | noticeDone (p : Port) (params : List Byte)
  /-- NOTICE_CLEAR. A transaction of `notice_clear`, whose complete bytes after the opcode byte 0x4E are `params`, ends on port p (R144). -/
  | noticeClear (p : Port) (params : List Byte)
  /-- SAVE_START. A transaction of `save_start`, whose complete bytes after the opcode byte 0x50 are `params`, ends on port p (R178). -/
  | saveStart (p : Port) (params : List Byte)
  /-- SAVE_ABORT. A transaction of `save_abort`, whose complete bytes after the opcode byte 0x51 are `params`, ends on port p (R186). -/
  | saveAbort (p : Port) (params : List Byte)
  /-- SAVE_STATUS. A transaction of `save_status`, whose complete bytes after the opcode byte 0x52 are `params`, ends on port p (R188). -/
  | saveStatus (p : Port) (params : List Byte)
  /-- TABLE_WIPE. A transaction of `table_wipe`, whose complete bytes after the opcode byte 0x60 are `params`, ends on port p (R23). -/
  | tableWipe (p : Port) (params : List Byte)
  /-- TABLE_RELOAD. A transaction of `table_reload`, whose complete bytes after the opcode byte 0x61 are `params`, ends on port p (R191). -/
  | tableReload (p : Port) (params : List Byte)
  /-- UNKNOWN_OPCODE. A transaction of an opcode that names no command ends on port p (R152, R159). -/
  | unknownOpcode (p : Port) (opcode : Byte) (params : List Byte)
  /-- COMMAND_DISCARD. A command transaction ends on port p while its command unit is EXECUTING (R157). -/
  | commandDiscard (p : Port) (opcode : Byte) (params : List Byte)
  /-- TABLE_OPERATION_GRANT. The table access arbiter makes its next grant (R21). -/
  | tableOperationGrant
  /-- TIME_BASE_STEP. One step of the 10 ms time base (R49, R80). -/
  | timeBaseStep
  /-- DRAFT_COUNTDOWN_ELAPSED. Port p's draft countdown reaches zero (R80). -/
  | draftCountdownElapsed (p : Port)
  /-- ANCHOR_COUNTDOWN_ELAPSED. Port p's anchor countdown reaches zero (R49). -/
  | anchorCountdownElapsed (p : Port)
  /-- DRAFT_EXPIRY. The arbiter grants the Lifetime Timer and serves port p's draft expiry (R82). -/
  | draftExpiry (p : Port)
  /-- ANCHOR_EXPIRY. The arbiter grants the Lifetime Timer and serves port p's anchor expiry (R50). -/
  | anchorExpiry (p : Port)
  /-- SAVE_ERASE_COMPLETE. The erase of the target bank ends and verifies or not (R179). -/
  | saveEraseComplete (verified : Bool)
  /-- SAVE_COPY. The arbiter grants the Save Engine's copy of one entry (R180). -/
  | saveCopy
  /-- RECORD_PROGRAM_COMPLETE. The program of a record ends and verifies or not (R181). -/
  | recordProgramComplete (verified : Bool)
  /-- HEADER_WRITE_COMPLETE. The header write ends and verifies or not (R183). -/
  | headerWriteComplete (verified : Bool)
  /-- HEADER_REERASE_COMPLETE. The second erase after a header failure ends and verifies or not (R183). -/
  | headerReeraseComplete (verified : Bool)
  /-- SAVE_END. The arbiter grants the Save Engine's end operation (R185). -/
  | saveEnd
  /-- NRESET_FALL. nRESET falls (R164, R192). -/
  | nresetFall
  /-- NRESET_RISE. nRESET rises, or power is applied (R164, R189). -/
  | nresetRise
  /-- STARTUP_LOAD. The start-up load is performed and completes (R189). -/
  | startupLoad
  /-- TABLE_OPERATION_COMPLETION. The Table Controller completes the operation in progress (R20). -/
  | tableOperationCompletion
  /-- TRANSACTION_END. nCS of port p rises on a transaction that takes no command (R151). -/
  | transactionEnd (p : Port)
deriving DecidableEq, Repr

end Sys2Proof
end

