-- ==== Sys2Proof/Decode.lean ====
section
/-! DEFINITION. The opcode table of R196: the byte and the expected byte count of every command, the
sorting of an opcode byte (R152), and `decodeTableWord`. No row of spec/opcode_table.json gives
bits, so no word spells a command (log 22). -/

namespace Sys2Proof

/-- The opcode byte of each command (R196). -/
def opcodeByte : Opcode → Byte
  | .attach => 0x10#8
  | .detach => 0x11#8
  | .setLifetimes => 0x12#8
  | .setWindows => 0x13#8
  | .getDeviceStatus => 0x14#8
  | .findTag => 0x20#8
  | .readEntry => 0x21#8
  | .readValue => 0x22#8
  | .readSlice => 0x23#8
  | .readHandle => 0x24#8
  | .anchorSet => 0x28#8
  | .anchorDrop => 0x29#8
  | .readAnchored => 0x2A#8
  | .readAnchoredHandle => 0x2B#8
  | .stageSet => 0x30#8
  | .stageSetHandle => 0x31#8
  | .stageDefine => 0x32#8
  | .stageRebound => 0x33#8
  | .stageRetire => 0x34#8
  | .draftView => 0x38#8
  | .draftRemove => 0x39#8
  | .draftDiscard => 0x3A#8
  | .release => 0x3B#8
  | .subscribe => 0x40#8
  | .subscribeSlice => 0x41#8
  | .unsubscribe => 0x42#8
  | .unsubscribeAll => 0x43#8
  | .nextChanged => 0x44#8
  | .setNoticeEnables => 0x48#8
  | .gateOn => 0x49#8
  | .gateOff => 0x4A#8
  | .takeNotices => 0x4B#8
  | .noticeRearm => 0x4C#8
  | .noticeDone => 0x4D#8
  | .noticeClear => 0x4E#8
  | .saveStart => 0x50#8
  | .saveAbort => 0x51#8
  | .saveStatus => 0x52#8
  | .tableWipe => 0x60#8
  | .tableReload => 0x61#8

/-- The expected count of bytes of each command, the opcode byte included (R196). -/
def expectedCount : Opcode → Nat
  | .attach => 1
  | .detach => 1
  | .setLifetimes => 3
  | .setWindows => 3
  | .getDeviceStatus => 1
  | .findTag => 3
  | .readEntry => 2
  | .readValue => 2
  | .readSlice => 2
  | .readHandle => 2
  | .anchorSet => 1
  | .anchorDrop => 1
  | .readAnchored => 2
  | .readAnchoredHandle => 2
  | .stageSet => 4
  | .stageSetHandle => 4
  | .stageDefine => 20
  | .stageRebound => 9
  | .stageRetire => 2
  | .draftView => 2
  | .draftRemove => 2
  | .draftDiscard => 1
  | .release => 1
  | .subscribe => 2
  | .subscribeSlice => 2
  | .unsubscribe => 2
  | .unsubscribeAll => 1
  | .nextChanged => 1
  | .setNoticeEnables => 2
  | .gateOn => 1
  | .gateOff => 1
  | .takeNotices => 1
  | .noticeRearm => 1
  | .noticeDone => 2
  | .noticeClear => 2
  | .saveStart => 1
  | .saveAbort => 1
  | .saveStatus => 1
  | .tableWipe => 1
  | .tableReload => 1

/-- Every command, in the order of R196. -/
def allOpcodes : List Opcode :=
  [.attach, .detach, .setLifetimes, .setWindows, .getDeviceStatus, .findTag, .readEntry, .readValue, .readSlice, .readHandle, .anchorSet, .anchorDrop, .readAnchored, .readAnchoredHandle, .stageSet, .stageSetHandle, .stageDefine, .stageRebound, .stageRetire, .draftView, .draftRemove, .draftDiscard, .release, .subscribe, .subscribeSlice, .unsubscribe, .unsubscribeAll, .nextChanged, .setNoticeEnables, .gateOn, .gateOff, .takeNotices, .noticeRearm, .noticeDone, .noticeClear, .saveStart, .saveAbort, .saveStatus, .tableWipe, .tableReload]

/-- The command that an opcode byte names, if any (R152, R196). -/
def opcodeOf (b : Byte) : Option Opcode := allOpcodes.find? fun o => opcodeByte o == b

/-- The opcode byte of `read_status` (R196). -/
def readStatusByte : Byte := 0x01#8

/-- The opcode byte of `read_result` (R196). -/
def readResultByte : Byte := 0x02#8

/-- The opcode is that of a port read, answered on the wire and not taken (R152). -/
def isPortRead (b : Byte) : Bool := b == readStatusByte || b == readResultByte

/-- The command that a word spells by the table's bits: the table gives bits for none of its rows.
DESIGN CHOICE (log 22), safe. -/
def decodeTableWord (_nbits _w : Nat) : Option Instr := none

end Sys2Proof
end

