-- ==== Sys2Proof/Config.lean ====
section
/-! DEFINITION. What the implementation fixes, and the one free value of the model. -/

namespace Sys2Proof

/-- The order in which the Lifetime Timer serves expiries that were added at the same countdown step
is open ("serve in any order", R22). The n-th draw of that choice is a free value: which member of
the group is served is this number modulo the group's size. Marked DESIGN CHOICE (log 6), safe:
nothing constrains it. -/
opaque Config.expiryPick : Nat → Nat

/-- The draft lifetime setting after chip reset and every attach (R79). -/
def Config.defaultDraftLife : Byte := 100#8

/-- The anchor lifetime setting after chip reset and every attach (R48). -/
def Config.defaultAnchorLife : Byte := 50#8

/-- The most items a draft holds (R60). -/
def Config.draftCapacity : Nat := 16

/-- The last generation, and the last image sequence (R13, R174). -/
def Config.lastGen : Gen := 4294967295#32

end Sys2Proof
end

