-- ==== Sys2Proof/Machine/State.lean ====
section
/-! DEFINITION. The state of the SC416 as plain data, everything the spec gives the part, and its
value right after chip reset. INVENTORY.md lists each field with its rule and reset value. -/

namespace Sys2Proof.Machine

/-! ### One value for each port, and sets of ports -/

/-- One value for each of the four ports. -/
structure PerPort (α : Type) where
  p0 : α
  p1 : α
  p2 : α
  p3 : α
deriving DecidableEq, Repr

/-- The value of a port. -/
def PerPort.get {α : Type} (f : PerPort α) : Port → α
  | .P0 => f.p0
  | .P1 => f.p1
  | .P2 => f.p2
  | .P3 => f.p3

/-- The same values with one port's replaced. -/
def PerPort.set {α : Type} (f : PerPort α) (p : Port) (a : α) : PerPort α :=
  match p with
  | .P0 => { f with p0 := a }
  | .P1 => { f with p1 := a }
  | .P2 => { f with p2 := a }
  | .P3 => { f with p3 := a }

/-- Every port's value from its number. -/
def PerPort.make {α : Type} (g : Port → α) : PerPort α :=
  ⟨g .P0, g .P1, g .P2, g .P3⟩

/-- A set of ports: whether each is a member (R1, R195). -/
abbrev PortSet := PerPort Bool

/-- The set with no member. -/
def noPorts : PortSet := ⟨false, false, false, false⟩

/-! ### Entries -/

/-- How an entry's words are read (R2). -/
inductive Kind where
  | unsigned | signed
deriving DecidableEq, Repr

/-- What a release does with a value outside the entry's bounds (R1, R92). -/
inductive Policy where
  | clamp | refuse
deriving DecidableEq, Repr

/-- The relations a coupling may state (R10). -/
inductive Relation where
  | notAbove | notBelow | within
deriving DecidableEq, Repr

/-- A coupling of an entry to its partner (R10). -/
structure Coupling where
  partner : Index
  relation : Relation
  margin : Word
deriving DecidableEq, Repr

/-- An older value and the generation at which it was set (R1, R16). -/
structure Prior where
  value : Word
  gen : Gen
deriving DecidableEq, Repr

/-- The fields of R1 that a LIVE or RETIRED entry has, retired_gen, claim and waiters apart. -/
structure Rec where
  tag : Word
  kind : Kind
  policy : Policy
  retain : Bool
  low : Word
  high : Word
  value : Word
  changedGen : Gen
  prior : Option Prior
  bornGen : Gen
  owner : Port
  writeSet : PortSet
  subscribers : PortSet
  coupling : Option Coupling
deriving DecidableEq, Repr

/-- The state of an entry with the fields that state gives it (R1, R5). -/
inductive Content where
  | vacant
  | live (r : Rec)
  | retired (r : Rec) (retiredGen : Gen)
deriving DecidableEq, Repr

/-- One of the 256 entry records (R1). -/
structure Entry where
  content : Content
  claim : Option Port
  waiters : PortSet
deriving DecidableEq, Repr

/-- A VACANT entry that no draft claims (R5). -/
def vacantEntry : Entry := { content := .vacant, claim := none, waiters := noPorts }

/-- The 256 entry records (R1). -/
abbrev Entries := Vector Entry 256

/-- A set of indices, as a strictly ascending list (R12, R132). -/
abbrev IndexSet := List Index

/-! ### Drafts -/

/-- The fields of a DEFINE item (R61, R68). -/
structure Definition where
  tag : Word
  kind : Kind
  policy : Policy
  retain : Bool
  low : Word
  high : Word
  value : Word
  writeSet : PortSet
  coupling : Option Coupling
deriving DecidableEq, Repr

/-- The four kinds of item with the fields each carries (R61). -/
inductive Change where
  | set (value : Word)
  | define (d : Definition)
  | rebound (low high : Word) (value : Option Word)
  | retire
deriving DecidableEq, Repr

/-- One item of a draft; its position is its place in the list (R61, R62). -/
structure Item where
  index : Index
  change : Change
deriving DecidableEq, Repr

/-- What the Table Controller holds (R1, R7, R12, R13, R45, R60). -/
structure TableController where
  entries : Entries
  /-- The map from tag to index, by ascending tag (R7). -/
  tagIndex : List (Word × Index)
  /-- For each entry, its dependents (R12). -/
  dependents : Vector IndexSet 256
  g : Gen
  drafts : PerPort (List Item)
  anchors : PerPort (Option Gen)
  saveAnchor : Option Gen
deriving DecidableEq, Repr

/-! ### Lifetimes -/

/-- A countdown of the Lifetime Timer; RUNNING carries the remaining life in units (R49, R80). -/
inductive Countdown where
  | stopped
  | running (units : Byte)
  | elapsed
deriving DecidableEq, Repr

/-- A draft or anchor expiry of a port (R22). -/
inductive Expiry where
  | draft (p : Port)
  | anchor (p : Port)
deriving DecidableEq, Repr

/-- What the Lifetime Timer holds (R22, R48, R49, R79, R80). -/
structure LifetimeTimer where
  draftLife : PerPort Byte
  anchorLife : PerPort Byte
  draftCount : PerPort Countdown
  anchorCount : PerPort Countdown
  /-- The set of pending expiries in the order they were added; those added at one countdown step
  stand in one inner list, and have no order among themselves (R22). -/
  expiries : List (List Expiry)
deriving DecidableEq, Repr

/-! ### Notice Units -/

/-- A set of notice flags: bit 0 CHG, 1 RET, 2 FREE, 3 DEXP, 4 PEXP, 5 SAVE, 6 WIPE (R195). -/
abbrev NoticeFlags := BitVec 7

/-- The states of a gate (R132, R138). -/
inductive Gate where
  | disarmed | armed | raised | servicing
deriving DecidableEq, Repr

/-- What a Notice Unit holds (R132). -/
structure NoticeUnit where
  flags : NoticeFlags
  enables : NoticeFlags
  gate : Gate
  changed : IndexSet
deriving DecidableEq, Repr

/-- A Notice Unit after chip reset, attach or session end (R132, R148). -/
def clearNotice : NoticeUnit := { flags := 0, enables := 0, gate := .disarmed, changed := [] }

/-! ### Port Units -/

/-- The status codes of R202. -/
inductive Status where
  | ok | notReady | notAttached | badOpcode | length | badParam | notSupervisor
  | vacant | retired | notFound | stale | absent | noAnchor | empty
  | claimed | noRight | draftFull | itemConflict | tableFull | noDraft | noItem
  | range | dupTag | coupled | coupling | partner | retainPartner | genLimit
  | saveBusy | noSave | imageLimit
deriving DecidableEq, Repr

/-- The outcome of a command: a status code and its payload (R162). -/
structure Answer where
  status : Status
  payload : List Byte
deriving DecidableEq, Repr

/-- The result record of a Port Unit (R162). -/
structure ResultRecord where
  opcode : Byte
  seq : Byte
  answer : Answer
deriving DecidableEq, Repr

/-- The work a command asks of the Table Controller, its handle already resolved (R22, R34). The
parameters that only the Table Controller tests are kept as sent (R195). -/
inductive TableCmd where
  | sessionEnd (reattach : Bool)
  | deviceStatus
  | findTag (tag : Word)
  | readEntry (i : Index)
  | readValue (i : Index)
  | readSlice (sl : Slice)
  | anchorSet
  | anchorDrop
  | readAnchored (i : Index)
  | stageSet (i : Index) (value : Word)
  | stageDefine (params : List Byte)
  | stageRebound (i : Index) (low high : Word) (mark : Byte) (value : Word)
  | stageRetire (i : Index)
  | draftView (position : Byte)
  | draftRemove (i : Index)
  | draftDiscard
  | release
  | subscribe (i : Index)
  | subscribeSlice (sl : Slice)
  | unsubscribe (i : Index)
  | unsubscribeAll
  | nextChanged
  | saveStart
  | tableWipe
  | tableReload
deriving DecidableEq, Repr

/-- The command in flight of a Port Unit that is EXECUTING (R156). `resolved` is the index its handle
was resolved to at the take, for a handle form (R34). -/
structure InFlight where
  opcode : Byte
  seq : Byte
  params : List Byte
  cmd : TableCmd
  resolved : Option Index
deriving DecidableEq, Repr

/-- What is captured at the fall of nCS: the status byte and the two port reads' answers (R153, R154,
R155). -/
structure Captured where
  statusByte : Byte
  statusAnswer : List Byte
  resultAnswer : List Byte
deriving DecidableEq, Repr

/-- The state of a port's link (R151, R152, R164). -/
inductive Link where
  /-- nCS is high. -/
  | idle
  /-- nCS is low and no opcode has been sorted yet. -/
  | selected (c : Captured)
  /-- A port read is being answered. -/
  | answering
  /-- nCS is low on a transaction that nRESET abandoned or that began in reset. -/
  | ignored
deriving DecidableEq, Repr

/-- The two session states (R165). -/
inductive Session where
  | detached | attached
deriving DecidableEq, Repr

/-- What a Port Unit holds (chapter 8). The command unit is IDLE exactly when `unit` is none (R156). -/
structure PortUnit where
  link : Link
  session : Session
  win0 : Slice
  win1 : Slice
  unit : Option InFlight
  /-- The Port Unit holds a request at the arbiter (R22). -/
  request : Bool
  result : Option ResultRecord
  resultValid : Bool
  seq : Byte
  /-- The bytes shifted out on SDO in the latest transaction: the model's own record of an output
  pin (log 3). -/
  sdo : List Byte
  /-- A chip reset found nCS low: SDO stays in high impedance until nCS next rises after nRESET has risen
  (R164, log 13). -/
  sdoHeld : Bool
deriving DecidableEq, Repr

/-! ### The Save Engine and the Retained Store -/

/-- The two banks (R174). -/
inductive BankName where
  | A | B
deriving DecidableEq, Repr

/-- The phases of a save (R177). -/
inductive SaveState where
  | idle | erasing | copying | closing
deriving DecidableEq, Repr

/-- How a save can end (R177). -/
inductive SaveOutcome where
  | done | torn | aborted | fault
deriving DecidableEq, Repr

/-- One record of a bank (R174). -/
structure RetainedRecord where
  index : Index
  tag : Word
  kind : Kind
  policy : Policy
  low : Word
  high : Word
  value : Word
  owner : Port
  writeSet : PortSet
  coupling : Option Coupling
deriving DecidableEq, Repr

/-- The content a bank's CRC was computed over. The spec says when the CRC matches, not its bits
(R174): it is held as that content. DEDUCED (log 14), unsafe. -/
structure Seal where
  sequence : Gen
  gs : Gen
  count : Nat
  records : List RetainedRecord
deriving DecidableEq, Repr

/-- One bank: the header fields, and the records from position 0 (R174). -/
structure Bank where
  marker : Bool
  sequence : Gen
  gs : Gen
  count : Nat
  crc : Option Seal
  records : List RetainedRecord
deriving DecidableEq, Repr

/-- The two banks of the Retained Store (R174). -/
structure RetainedStore where
  a : Bank
  b : Bank
deriving DecidableEq, Repr

/-- The save state and the save record (R177). -/
structure SaveRecord where
  state : SaveState
  starter : Option Port
  target : Option BankName
  gs : Option Gen
  nextIndex : Index
  copied : Nat
  endPending : Option SaveOutcome
  lastOutcome : Option SaveOutcome
deriving DecidableEq, Repr

/-- What the Save Engine may hold at the arbiter (R22, R177). -/
inductive SaveRequest where
  | copy | finish
deriving DecidableEq, Repr

/-- The Save Engine's work on the Retained Store between its table operations (R179, R181, R183). -/
inductive StoreWork where
  | none
  | erase
  | program (r : RetainedRecord)
  | header
  | reerase
deriving DecidableEq, Repr

/-- The device state (R163). -/
inductive DeviceState where
  | ready | loading
deriving DecidableEq, Repr

/-- What the Save Engine holds (R163, R175, R177). -/
structure SaveEngine where
  record : SaveRecord
  request : Option SaveRequest
  work : StoreWork
  device : DeviceState
  startup : Bool
  active : Option BankName
deriving DecidableEq, Repr

/-! ### The arbiter -/

/-- The six requesters in their circular order: PU0 to PU3, Lifetime Timer, Save Engine (R21). -/
inductive Requester where
  | pu (p : Port)
  | timer
  | save
deriving DecidableEq, Repr

/-- The outcome of one visit of COPYING (R180). -/
inductive Visit where
  | noRecord
  | record (r : RetainedRecord)
  | torn
deriving DecidableEq, Repr

/-- What a table operation still does at its completion, beside handing its outcome back (R20). -/
inductive Finish where
  | plain
  /-- Session end of a port, and whether it attaches afresh (R168, R169). -/
  | session (p : Port) (reattach : Bool)
  /-- WIPE, and whether the wipe ends a save in ERASING or COPYING (R24, R187). -/
  | wipe (endsSave : Bool)
  /-- READY again and WIPE after a reload (R191). -/
  | reload
  /-- The save record of an accepted `save_start` (R178). -/
  | saveStart (p : Port) (gs : Gen)
  /-- The outcome of a copy operation (R180, R181). -/
  | copy (v : Visit)
  /-- The end of a save (R185). -/
  | saveEnd
deriving DecidableEq, Repr

/-- A table operation in progress: who was granted, the outcome to hand back, what is left for the
completion, and, for the operations that change it, the save record as it stood at the grant (R20,
R177). -/
structure TableOperation where
  requester : Requester
  answer : Option Answer
  finish : Finish
  saveSeen : Option SaveRecord
deriving DecidableEq, Repr

/-- What the table access arbiter holds; the requests stand with their requesters (R21, R22). -/
structure Arbiter where
  searchStart : Requester
  op : Option TableOperation
deriving DecidableEq, Repr

/-! ### The whole part -/

/-- The state of the SC416. -/
structure State where
  /-- The level of the nRESET pin: true is high (R164). -/
  nreset : Bool
  ports : PerPort PortUnit
  notices : PerPort NoticeUnit
  table : TableController
  timer : LifetimeTimer
  arbiter : Arbiter
  save : SaveEngine
  store : RetainedStore
  /-- How many free choices have been drawn: the model's own counter (log 6). -/
  freePick : Nat
  /-- The commands and events that wait, first in first out (log 5). -/
  pending : List Instr
deriving DecidableEq, Repr

/-- The part has no fault that stops it: every case of the spec ends in a next state (R156 to R164),
so no meaning raises one. Safe. -/
inductive Fault where
deriving DecidableEq, Repr

/-- Why a row has no meaning. -/
inductive Refusal where
  /-- Raised by an arm of `exec` whose row is not modelled; no arm is left so. Safe. -/
  | notModelled (mnemonic : String)
deriving DecidableEq, Repr

/-! ### Reset values -/

/-- A Port Unit after chip reset, with its link, its SDO not held (R164). -/
def resetPort (l : Link) : PortUnit :=
  { link := l, session := .detached, win0 := 0, win1 := 1, unit := none, request := false,
    result := none, resultValid := false, seq := 0, sdo := [],
    sdoHeld := false }

/-- The Table Controller after chip reset (R26, R59, R85). -/
def resetTable : TableController :=
  { entries := Vector.replicate 256 vacantEntry
    tagIndex := []
    dependents := Vector.replicate 256 []
    g := 0
    drafts := ⟨[], [], [], []⟩
    anchors := ⟨none, none, none, none⟩
    saveAnchor := none }

/-- The Lifetime Timer after chip reset (R26, R59, R85). -/
def resetTimer : LifetimeTimer :=
  { draftLife := .make fun _ => Config.defaultDraftLife
    anchorLife := .make fun _ => Config.defaultAnchorLife
    draftCount := .make fun _ => .stopped
    anchorCount := .make fun _ => .stopped
    expiries := [] }

/-- The save record after chip reset (R177). -/
def resetRecord : SaveRecord :=
  { state := .idle, starter := none, target := none, gs := none, nextIndex := 0, copied := 0,
    endPending := none, lastOutcome := none }

/-- The Save Engine at the rise of nRESET: LOADING with the start-up mark set (R163, R177). The
active-bank pointer is not decided before the start-up load: none, DESIGN CHOICE (log 11), unsafe. -/
def resetSave : SaveEngine :=
  { record := resetRecord, request := none, work := .none, device := .loading, startup := true,
    active := none }

/-- An erased bank: no marker and no record. The header values of an erased bank are read by nothing:
DESIGN CHOICE (log 15), unsafe. -/
def blankBank : Bank :=
  { marker := false, sequence := 0, gs := 0, count := 0, crc := none, records := [] }

/-- The state every unit starts in when nRESET rises or power is applied, with the Retained Store,
the links, the ports whose SDO is held, the model's counter and the queue given (R164, R189). -/
def startState (links : PerPort Link) (held : PerPort Bool) (st : RetainedStore) (pick : Nat)
    (queue : List Instr) : State :=
  { nreset := true
    ports := .make fun p => { resetPort (links.get p) with sdoHeld := held.get p }
    notices := .make fun _ => clearNotice
    table := resetTable
    timer := resetTimer
    arbiter := { searchStart := .pu .P0, op := none }
    save := resetSave
    store := st
    freePick := pick
    pending := queue }

/-- The part right after chip reset, nRESET just risen and the start-up load not yet performed (log
10). A Retained Store that has never been written is blank: DESIGN CHOICE (log 9), unsafe. -/
def State.reset : State :=
  startState (.make fun _ => .idle) (.make fun _ => false) { a := blankBank, b := blankBank } 0 []

end Sys2Proof.Machine
end

