-- ==== Sys2Proof/Machine/Ops.lean ====
section
/-! DEFINITION. The named reads and updates of the state, and the shared operations over entries,
index sets, the tag index, the dependents relation, drafts, claims, countdowns and anchors. -/

namespace Sys2Proof.Machine

/-! ### Updates of one field of the state -/

def State.withNreset (s : State) (b : Bool) : State := { s with nreset := b }
def State.withPorts (s : State) (f : PerPort PortUnit) : State := { s with ports := f }
def State.withNotices (s : State) (f : PerPort NoticeUnit) : State := { s with notices := f }
def State.withTable (s : State) (t : TableController) : State := { s with table := t }
def State.withTimer (s : State) (t : LifetimeTimer) : State := { s with timer := t }
def State.withArbiter (s : State) (a : Arbiter) : State := { s with arbiter := a }
def State.withSave (s : State) (e : SaveEngine) : State := { s with save := e }
def State.withStore (s : State) (r : RetainedStore) : State := { s with store := r }
def State.withPick (s : State) (n : Nat) : State := { s with freePick := n }
def State.withPending (s : State) (q : List Instr) : State := { s with pending := q }

/-- Port p's Port Unit. -/
def State.port (s : State) (p : Port) : PortUnit := s.ports.get p

/-- Port p's Notice Unit. -/
def State.notice (s : State) (p : Port) : NoticeUnit := s.notices.get p

/-- The entry at an index. -/
def State.entry (s : State) (i : Index) : Entry := s.table.entries.get i

/-- Port p's draft. -/
def State.draft (s : State) (p : Port) : List Item := s.table.drafts.get p

/-- Port p's anchor, if it holds one. -/
def State.anchor (s : State) (p : Port) : Option Gen := s.table.anchors.get p

def State.setPort (s : State) (p : Port) (u : PortUnit) : State := s.withPorts (s.ports.set p u)

def State.setNotice (s : State) (p : Port) (n : NoticeUnit) : State :=
  s.withNotices (s.notices.set p n)

def State.withEntries (s : State) (t : Entries) : State := s.withTable { s.table with entries := t }

def State.setEntry (s : State) (i : Index) (e : Entry) : State :=
  s.withEntries (s.table.entries.set i.val e i.isLt)

def State.setDraft (s : State) (p : Port) (d : List Item) : State :=
  s.withTable { s.table with drafts := s.table.drafts.set p d }

def State.setAnchor (s : State) (p : Port) (a : Option Gen) : State :=
  s.withTable { s.table with anchors := s.table.anchors.set p a }

def State.setSaveAnchor (s : State) (a : Option Gen) : State :=
  s.withTable { s.table with saveAnchor := a }

def State.withRecord (s : State) (r : SaveRecord) : State :=
  s.withSave { s.save with record := r }

/-- The port is ATTACHED (R165). -/
def State.attached (s : State) (p : Port) : Bool := (s.port p).session == .attached

/-! ### Port sets -/

def PortSet.has (ps : PortSet) (p : Port) : Bool := PerPort.get ps p
def PortSet.add (ps : PortSet) (p : Port) : PortSet := PerPort.set ps p true
def PortSet.drop (ps : PortSet) (p : Port) : PortSet := PerPort.set ps p false

/-! ### Entries -/

/-- A function over all 256 entries. -/
def mapEntries (f : Entry → Entry) (t : Entries) : Entries :=
  ⟨⟨t.toList.map f⟩, by simp⟩

/-- How many of the 256 entries a test holds of. -/
def countEntries (f : Entry → Bool) (t : Entries) : Nat := t.toList.countP f

/-- All indices in ascending order. -/
def allIndices : List Index := List.finRange 256

/-- The fields of a LIVE or RETIRED entry (R1). -/
def Entry.rec? (e : Entry) : Option Rec :=
  match e.content with
  | .vacant => none
  | .live r => some r
  | .retired r _ => some r

/-- The fields of a LIVE entry. -/
def Entry.live? (e : Entry) : Option Rec :=
  match e.content with
  | .live r => some r
  | _ => none

def Entry.isVacant (e : Entry) : Bool := e.content == .vacant
def Entry.isLive (e : Entry) : Bool := e.live?.isSome
def Entry.isRetired (e : Entry) : Bool := e.rec?.isSome && e.live?.isNone

/-- An entry with its subscribers changed; a VACANT entry has none (R1). -/
def Entry.mapSubscribers (f : PortSet → PortSet) (e : Entry) : Entry :=
  match e.content with
  | .vacant => e
  | .live r => { e with content := .live { r with subscribers := f r.subscribers } }
  | .retired r g => { e with content := .retired { r with subscribers := f r.subscribers } g }

/-- The port is in the entry's subscribers. -/
def Entry.hasSubscriber (p : Port) (e : Entry) : Bool :=
  match e.rec? with
  | some r => PortSet.has r.subscribers p
  | none => false

/-! ### Index sets, the tag index, the dependents -/

/-- An index joins a set, kept strictly ascending and without duplicates. -/
def addIndex (i : Index) : IndexSet → IndexSet
  | [] => [i]
  | j :: js => if i < j then i :: j :: js else if i = j then j :: js else j :: addIndex i js

/-- An index leaves a set. -/
def dropIndex (i : Index) (js : IndexSet) : IndexSet := js.filter fun j => j != i

/-- The index the tag index holds for a tag (R7). -/
def lookupTag (t : Word) (ti : List (Word × Index)) : Option Index :=
  (ti.find? fun q => q.1 == t).map Prod.snd

/-- A pair joins the tag index, kept by ascending tag, in place of any pair of the same tag (R7). -/
def addTag (t : Word) (i : Index) : List (Word × Index) → List (Word × Index)
  | [] => [(t, i)]
  | q :: qs =>
    if t < q.1 then (t, i) :: q :: qs
    else if t = q.1 then (t, i) :: qs
    else q :: addTag t i qs

/-- The pair of a tag leaves the tag index. -/
def dropTag (t : Word) (ti : List (Word × Index)) : List (Word × Index) :=
  ti.filter fun q => q.1 != t

/-- The dependents of an entry (R12). -/
def State.dependentsOf (s : State) (i : Index) : IndexSet := s.table.dependents.get i

/-- An entry joins the dependents of its partner (R12). -/
def addDependent (partner d : Index) (v : Vector IndexSet 256) : Vector IndexSet 256 :=
  v.set partner.val (addIndex d (v.get partner)) partner.isLt

/-- An entry leaves the dependents of its partner (R12). -/
def dropDependent (partner d : Index) (v : Vector IndexSet 256) : Vector IndexSet 256 :=
  v.set partner.val (dropIndex d (v.get partner)) partner.isLt

/-! ### Values -/

/-- The number a word stands for in a kind (R2). -/
def valueOf (k : Kind) (w : Word) : Int :=
  match k with
  | .unsigned => w.toNat
  | .signed => w.toInt

/-- a ≤ b in the order of a kind (R2). -/
def leIn (k : Kind) (a b : Word) : Bool := decide (valueOf k a ≤ valueOf k b)

/-- The value lies within the bounds in the order of a kind (R3). -/
def within (k : Kind) (low high v : Word) : Bool := leIn k low v && leIn k v high

/-- The relation of a coupling holds between the entry's value v and the partner's value w, the
distance computed exactly (R10). -/
def relationHolds (c : Coupling) (k : Kind) (v w : Word) : Bool :=
  match c.relation with
  | .notAbove => decide (valueOf k v ≤ valueOf k w)
  | .notBelow => decide (valueOf k w ≤ valueOf k v)
  | .within => decide ((valueOf k v - valueOf k w).natAbs ≤ c.margin.toNat)

/-! ### Anchors and the vacate test -/

/-- The anchors held: the port anchors and the save anchor (R45, R115). -/
def heldAnchors (t : TableController) : List Gen :=
  [t.anchors.p0, t.anchors.p1, t.anchors.p2, t.anchors.p3, t.saveAnchor].filterMap id

/-- Some held anchor names a generation below retired_gen, and so holds the entry (R115). -/
def isHeld (anchors : List Gen) (retiredGen : Gen) : Bool := anchors.any fun a => decide (a < retiredGen)

/-- One entry under the vacate test: a RETIRED entry that no anchor holds becomes VACANT with every
other field cleared (R116, R117). -/
def vacateEntry (anchors : List Gen) (e : Entry) : Entry :=
  match e.content with
  | .retired _ g => if isHeld anchors g then e else vacantEntry
  | _ => e

/-- The vacate test over the whole table (R116). -/
def vacateTest (s : State) : State :=
  s.withEntries (mapEntries (vacateEntry (heldAnchors s.table)) s.table.entries)

/-- How many entries the vacate test would make VACANT (R167). -/
def vacateCount (s : State) : Nat :=
  countEntries (fun e => !e.isVacant && (vacateEntry (heldAnchors s.table) e).isVacant)
    s.table.entries

/-! ### Countdowns -/

/-- A countdown restarted with a lifetime setting; 0 means no limit (R49, R80). -/
def restartCount (life : Byte) : Countdown := if life = 0 then .stopped else .running life

/-- A countdown after one step of the time base (R49, R80). -/
def stepCount : Countdown → Countdown
  | .stopped => .stopped
  | .running r => if r.toNat ≤ 1 then .elapsed else .running (r - 1)
  | .elapsed => .elapsed

/-- The countdown reaches zero at its next step (R49, R80). -/
def reachesZero : Countdown → Bool
  | .running r => decide (r.toNat ≤ 1)
  | _ => false

def setDraftCount (s : State) (p : Port) (c : Countdown) : State :=
  s.withTimer { s.timer with draftCount := s.timer.draftCount.set p c }

def setAnchorCount (s : State) (p : Port) (c : Countdown) : State :=
  s.withTimer { s.timer with anchorCount := s.timer.anchorCount.set p c }

/-- The Table Controller asks for a restart of port p's draft countdown (R81). -/
def restartDraft (p : Port) (s : State) : State :=
  setDraftCount s p (restartCount (s.timer.draftLife.get p))

/-- The Table Controller asks for a stop of port p's draft countdown (R80). -/
def stopDraft (p : Port) (s : State) : State := setDraftCount s p .stopped

/-- The Table Controller asks for a restart of port p's anchor countdown (R46). -/
def restartAnchor (p : Port) (s : State) : State :=
  setAnchorCount s p (restartCount (s.timer.anchorLife.get p))

/-- The Table Controller asks for a stop of port p's anchor countdown (R47). -/
def stopAnchor (p : Port) (s : State) : State := setAnchorCount s p .stopped

/-- Both lifetime settings of a port replaced (R171). -/
def setLives (s : State) (p : Port) (draft anchor : Byte) : State :=
  s.withTimer { s.timer with
    draftLife := s.timer.draftLife.set p draft
    anchorLife := s.timer.anchorLife.set p anchor }

/-! ### Drafts and claims -/

/-- The item a draft holds for an entry, if any (R60). -/
def itemFor (d : List Item) (i : Index) : Option Item := d.find? fun it => it.index == i

/-- The position of the item for an entry, counted from 1 (R61). -/
def positionOf (d : List Item) (i : Index) : Nat := d.findIdx (fun it => it.index == i) + 1

/-- The item is a DEFINE. -/
def Item.isDefine (it : Item) : Bool :=
  match it.change with
  | .define _ => true
  | _ => false

/-- The item is a RETIRE. -/
def Item.isRetire (it : Item) : Bool :=
  match it.change with
  | .retire => true
  | _ => false

/-- The ports waiting on the entries of some items (R75). -/
def waitersOf (t : Entries) (items : List Item) : PortSet :=
  .make fun q => items.any fun it => PortSet.has (t.get it.index).waiters q

/-- The claims of some items end and their entries' waiters become empty (R75). -/
def dropClaims (t : Entries) (items : List Item) : Entries :=
  items.foldl (fun t it =>
    t.set it.index.val { t.get it.index with claim := none, waiters := noPorts } it.index.isLt) t

/-! ### Banks -/

def RetainedStore.get (r : RetainedStore) : BankName → Bank
  | .A => r.a
  | .B => r.b

def RetainedStore.set (r : RetainedStore) (n : BankName) (b : Bank) : RetainedStore :=
  match n with
  | .A => { r with a := b }
  | .B => { r with b := b }

/-- The active sequence: the header sequence of the active bank, or 0 (R175). -/
def activeSequence (s : State) : Gen :=
  match s.save.active with
  | some n => (s.store.get n).sequence
  | none => 0

/-- The save record that `save_status` and `save_abort` answer from: as it stood at the grant of an
operation in progress that changes it, else as it stands (R177). -/
def seenRecord (s : State) : SaveRecord :=
  match s.arbiter.op with
  | some { saveSeen := some r, .. } => r
  | _ => s.save.record

end Sys2Proof.Machine
end

