-- ==== Sys2Proof/Machine/Flags.lean ====
section
/-! DEFINITION. The notice flags, the gate and the deliveries to a Notice Unit (chapter 7). -/

namespace Sys2Proof.Machine

/-! ### The seven flags (R195) -/

def flagCHG : NoticeFlags := 0x01#7
def flagRET : NoticeFlags := 0x02#7
def flagFREE : NoticeFlags := 0x04#7
def flagDEXP : NoticeFlags := 0x08#7
def flagPEXP : NoticeFlags := 0x10#7
def flagSAVE : NoticeFlags := 0x20#7
def flagWIPE : NoticeFlags := 0x40#7

/-- A flag if a condition holds, else no flag. -/
def flagIf (b : Bool) (f : NoticeFlags) : NoticeFlags := if b then f else 0

/-- At least one flag is both set and enabled (R138). -/
def enabledPending (n : NoticeUnit) : Bool := n.flags &&& n.enables != 0

/-- The raise test: an ARMED gate with an enabled flag set goes to RAISED (R139). -/
def raiseTest (n : NoticeUnit) : NoticeUnit :=
  if n.gate = .armed ∧ enabledPending n = true then { n with gate := .raised } else n

/-- A RAISED gate with no enabled flag left goes to ARMED (R137, R143, R144). -/
def lowerTest (n : NoticeUnit) : NoticeUnit :=
  if n.gate = .raised ∧ enabledPending n = false then { n with gate := .armed } else n

/-- nATTN is low: the gate is RAISED (R138). -/
def nattnLow (n : NoticeUnit) : Bool := n.gate == .raised

/-! ### Deliveries (R133, R134) -/

/-- One delivery: flags to set, indices to add to the changed set, and whether the changed set is
first emptied (R133). -/
structure Delivery where
  flags : NoticeFlags
  indices : List Index
  empties : Bool
deriving DecidableEq, Repr

/-- The delivery that carries nothing. -/
def noDelivery : Delivery := { flags := 0, indices := [], empties := false }

/-- A Notice Unit applies an arriving delivery in the four steps of R134. -/
def applyDelivery (d : Delivery) (n : NoticeUnit) : NoticeUnit :=
  if d = noDelivery then n
  else raiseTest { n with
    changed := d.indices.foldl (fun js i => addIndex i js) (if d.empties then [] else n.changed)
    flags := n.flags ||| d.flags }

/-- Deliveries to the four ports; a Notice Unit of a DETACHED port receives none (R134). -/
def deliver (f : Port → Delivery) (s : State) : State :=
  s.withNotices (.make fun q =>
    if s.attached q then applyDelivery (f q) (s.notice q) else s.notice q)

/-- One flag to the ports of a set. -/
def deliverFlag (fl : NoticeFlags) (ps : PortSet) (s : State) : State :=
  deliver (fun q => { flags := flagIf (PortSet.has ps q) fl, indices := [], empties := false }) s

/-! ### The gate under the notice commands -/

/-- The enables become the mask, and the gate acts by its state (R137). -/
def noticeSetEnables (mask : NoticeFlags) (n : NoticeUnit) : NoticeUnit :=
  let m := { n with enables := mask }
  match n.gate with
  | .armed => raiseTest m
  | .raised => lowerTest m
  | .disarmed | .servicing => m

/-- `gate_on`: a DISARMED gate goes to ARMED with the raise test (R140). -/
def noticeGateOn (n : NoticeUnit) : NoticeUnit :=
  match n.gate with
  | .disarmed => raiseTest { n with gate := .armed }
  | .armed | .raised | .servicing => n

/-- `gate_off`: the gate goes to DISARMED (R140). -/
def noticeGateOff (n : NoticeUnit) : NoticeUnit := { n with gate := .disarmed }

/-- `take_notices`: a RAISED gate goes to SERVICING (R141). -/
def noticeTake (n : NoticeUnit) : NoticeUnit :=
  match n.gate with
  | .raised => { n with gate := .servicing }
  | .disarmed | .armed | .servicing => n

/-- `notice_rearm`: a SERVICING gate goes to ARMED with the raise test (R142). -/
def noticeRearm (n : NoticeUnit) : NoticeUnit :=
  match n.gate with
  | .servicing => raiseTest { n with gate := .armed }
  | .disarmed | .armed | .raised => n

/-- `notice_done(mask)`: the named flags are cleared; a SERVICING gate goes to ARMED with the raise
test, a RAISED gate stays while an enabled flag is set (R143). -/
def noticeDone (mask : NoticeFlags) (n : NoticeUnit) : NoticeUnit :=
  let m := { n with flags := n.flags &&& ~~~mask }
  match n.gate with
  | .servicing => raiseTest { m with gate := .armed }
  | .raised => lowerTest m
  | .disarmed | .armed => m

/-- `notice_clear(mask)`: the named flags are cleared; only a RAISED gate may change (R144). -/
def noticeClear (mask : NoticeFlags) (n : NoticeUnit) : NoticeUnit :=
  let m := { n with flags := n.flags &&& ~~~mask }
  match n.gate with
  | .raised => lowerTest m
  | .disarmed | .armed | .servicing => m

/-! ### Ends of claims -/

/-- The claims of some items end with FREE to each waiter (R75). -/
def endClaims (items : List Item) (s : State) : State :=
  deliverFlag flagFREE (waitersOf s.table.entries items)
    (s.withEntries (dropClaims s.table.entries items))

/-- Port p's whole draft is emptied, its claims end with FREE and its countdown stops (R75, R80). -/
def emptyDraft (p : Port) (s : State) : State :=
  stopDraft p ((endClaims (s.draft p) s).setDraft p [])

end Sys2Proof.Machine
end

