-- ==== Sys2Proof/Machine/Payload.lean ====
section
/-! DEFINITION. Bytes on the wire that the part sends: byte order, codes, the status byte, the
answers of the port reads and the payload layouts (chapter 10). -/

namespace Sys2Proof.Machine

/-! ### Widths and byte order (R194) -/

/-- Two bytes, most significant first (R194). -/
def be16 (w : Word) : List Byte := [w.extractLsb' 8 8, w.extractLsb' 0 8]

/-- Four bytes, most significant first (R194). -/
def be32 (g : Gen) : List Byte :=
  [g.extractLsb' 24 8, g.extractLsb' 16 8, g.extractLsb' 8 8, g.extractLsb' 0 8]

/-- A count of one byte (R194). -/
def count8 (n : Nat) : Byte := BitVec.ofNat 8 n

/-- A count that can reach 256, in two bytes (R194). -/
def count16 (n : Nat) : List Byte := be16 (BitVec.ofNat 16 n)

/-- An index in one byte. -/
def indexByte (i : Index) : Byte := BitVec.ofNat 8 i.val

/-- A slice or window in one byte. -/
def sliceByte (s : Slice) : Byte := BitVec.ofNat 8 s.val

/-! ### Codes (R195, R202) -/

/-- A yes or no mark, and a presence mark (R195). -/
def markByte (b : Bool) : Byte := if b then 1 else 0

def kindByte : Kind → Byte
  | .unsigned => 0
  | .signed => 1

def policyByte : Policy → Byte
  | .clamp => 0
  | .refuse => 1

def relationByte : Relation → Byte
  | .notAbove => 1
  | .notBelow => 2
  | .within => 3

def changeByte : Change → Byte
  | .set _ => 1
  | .define _ => 2
  | .rebound _ _ _ => 3
  | .retire => 4

/-- The item kind code of a withdrawn DEFINE (R195). -/
def withdrawnByte : Byte := 0

def contentByte : Content → Byte
  | .vacant => 0
  | .live _ => 1
  | .retired _ _ => 2

def gateByte : Gate → Byte
  | .disarmed => 0
  | .armed => 1
  | .raised => 2
  | .servicing => 3

def deviceByte : DeviceState → Byte
  | .ready => 0
  | .loading => 1

def sessionByte : Session → Byte
  | .detached => 0
  | .attached => 1

def saveStateByte : SaveState → Byte
  | .idle => 0
  | .erasing => 1
  | .copying => 2
  | .closing => 3

def outcomeByte : Option SaveOutcome → Byte
  | none => 0
  | some .done => 1
  | some .torn => 2
  | some .aborted => 3
  | some .fault => 4

def bankByte : Option BankName → Byte
  | none => 0
  | some .A => 1
  | some .B => 2

def portByte : Port → Byte
  | .P0 => 0
  | .P1 => 1
  | .P2 => 2
  | .P3 => 3

/-- A port, or none (R195). -/
def portOrNoneByte : Option Port → Byte
  | none => 0xFF
  | some p => portByte p

/-- A set of ports: bit n stands for Pn (R195). -/
def portSetByte (ps : PortSet) : Byte :=
  (if ps.p0 then 1 else 0) ||| (if ps.p1 then 2 else 0) ||| (if ps.p2 then 4 else 0) |||
    (if ps.p3 then 8 else 0)

/-- A set of notice flags: bit 7 is 0 in every answer (R195). -/
def flagsByte (f : NoticeFlags) : Byte := f.setWidth 8

def statusCode : Status → Byte
  | .ok => 0x00
  | .notReady => 0x01
  | .notAttached => 0x02
  | .badOpcode => 0x03
  | .length => 0x04
  | .badParam => 0x05
  | .notSupervisor => 0x06
  | .vacant => 0x10
  | .retired => 0x11
  | .notFound => 0x12
  | .stale => 0x13
  | .absent => 0x14
  | .noAnchor => 0x15
  | .empty => 0x16
  | .claimed => 0x20
  | .noRight => 0x21
  | .draftFull => 0x22
  | .itemConflict => 0x23
  | .tableFull => 0x24
  | .noDraft => 0x25
  | .noItem => 0x26
  | .range => 0x30
  | .dupTag => 0x31
  | .coupled => 0x32
  | .coupling => 0x33
  | .partner => 0x34
  | .retainPartner => 0x35
  | .genLimit => 0x36
  | .saveBusy => 0x40
  | .noSave => 0x41
  | .imageLimit => 0x42

/-! ### Answers -/

/-- An answer with no payload. -/
def bare (st : Status) : Answer := { status := st, payload := [] }

/-- An answer OK with its payload. -/
def okWith (bytes : List Byte) : Answer := { status := .ok, payload := bytes }

/-- An optional generation: presence byte, then four bytes, zero when absent (R194). -/
def optGen (g : Option Gen) : List Byte :=
  match g with
  | some a => 1 :: be32 a
  | none => 0 :: be32 0

/-- An optional coupling: presence, partner, relation, margin (R201). -/
def couplingBytes : Option Coupling → List Byte
  | some c => [1, indexByte c.partner, relationByte c.relation] ++ be16 c.margin
  | none => [0, 0, 0, 0, 0]

/-- An optional prior pair: presence, value, generation (R201). -/
def priorBytes : Option Prior → List Byte
  | some q => 1 :: (be16 q.value ++ be32 q.gen)
  | none => 0 :: (be16 0 ++ be32 0)

/-- Offsets 1 to 38 of the `read_entry` record for the fields a LIVE or RETIRED entry has, with the
given retired_gen (R201). -/
def recordBytes (r : Rec) (retiredGen : Gen) : List Byte :=
  be16 r.tag ++ [kindByte r.kind, policyByte r.policy, markByte r.retain] ++ be16 r.low ++
    be16 r.high ++ be16 r.value ++ be32 r.changedGen ++ be32 r.bornGen ++ be32 retiredGen ++
    priorBytes r.prior ++ [portByte r.owner, portSetByte r.writeSet, portSetByte r.subscribers] ++
    couplingBytes r.coupling

/-- The 42 bytes of `read_entry`; an absent field reads zero (R194, R201). -/
def entryPayload (e : Entry) : List Byte :=
  contentByte e.content ::
    ((match e.content with
      | .vacant => List.replicate 38 0
      | .live r => recordBytes r 0
      | .retired r g => recordBytes r g) ++
    (match e.claim with
      | some p => [1, portByte p]
      | none => [0, 0]) ++ [portSetByte e.waiters])

/-- State, kind and value of one entry of a slice (R44, R201). -/
def sliceEntryBytes (e : Entry) : List Byte :=
  contentByte e.content ::
    (match e.rec? with
      | some r => kindByte r.kind :: be16 r.value
      | none => [0, 0, 0])

/-- The fields of an item from offset 4 to 21 of `draft_view` (R201). -/
def changeBytes : Change → List Byte
  | .set v => List.replicate 9 0 ++ [1] ++ be16 v ++ [0] ++ couplingBytes none
  | .define d =>
    be16 d.tag ++ [kindByte d.kind, policyByte d.policy, markByte d.retain] ++ be16 d.low ++
      be16 d.high ++ [1] ++ be16 d.value ++ [portSetByte d.writeSet] ++ couplingBytes d.coupling
  | .rebound lo hi v =>
    List.replicate 5 0 ++ be16 lo ++ be16 hi ++
      (match v with
        | some w => 1 :: be16 w
        | none => [0, 0, 0]) ++ [0] ++ couplingBytes none
  | .retire => List.replicate 18 0

/-- Remaining life: presence and units, 0 when ELAPSED (R76, R201). -/
def lifeBytes : Countdown → List Byte
  | .stopped => [0, 0]
  | .running r => [1, r]
  | .elapsed => [1, 0]

/-- The payload of every accepted notice command (R145, R201). -/
def noticePayload (n : NoticeUnit) : List Byte :=
  [flagsByte n.flags, flagsByte n.enables, gateByte n.gate] ++ count16 n.changed.length

/-- The payload of `save_status` (R188, R201). -/
def saveStatusPayload (r : SaveRecord) (active : Option BankName) (sequence : Gen) : List Byte :=
  [saveStateByte r.state, outcomeByte r.endPending, portOrNoneByte r.starter, bankByte r.target] ++
    optGen r.gs ++ [indexByte r.nextIndex] ++ count16 r.copied ++
    [outcomeByte r.lastOutcome, bankByte active] ++ be32 sequence

/-! ### The status byte and the port reads (R198 to R200) -/

/-- The status byte (R153, R198). -/
def statusByte (s : State) (p : Port) : Byte :=
  (if s.save.device = .loading then 0x80 else 0) |||
  (if (s.port p).session = .attached then 0x40 else 0) |||
  (if (s.port p).unit.isSome then 0x20 else 0) |||
  (if (s.port p).resultValid then 0x10 else 0) |||
  (if (s.notice p).gate = .raised then 0x08 else 0) |||
  (if (s.notice p).flags ≠ 0 then 0x04 else 0) ||| 0x02

/-- The 17 bytes of `read_status` (R154, R199). -/
def statusAnswer (s : State) (p : Port) : List Byte :=
  let u := s.port p
  let n := s.notice p
  [portByte p, deviceByte s.save.device, sessionByte u.session, markByte u.unit.isSome,
    (match u.unit with | some f => f.opcode | none => 0),
    (match u.unit with | some f => f.seq | none => 0),
    u.seq, markByte u.resultValid, sliceByte u.win0, sliceByte u.win1,
    s.timer.draftLife.get p, s.timer.anchorLife.get p,
    flagsByte n.flags, flagsByte n.enables, gateByte n.gate] ++ count16 n.changed.length

/-- The bytes of `read_result` (R155, R200). -/
def resultAnswer (u : PortUnit) : List Byte :=
  match u.result with
  | none => [0, 0, 0, 0, 0]
  | some r =>
    [if u.resultValid then 2 else 1, r.opcode, r.seq, statusCode r.answer.status,
      count8 r.answer.payload.length] ++ r.answer.payload

/-- What is captured at the fall of nCS (R153 to R155). -/
def capture (s : State) (p : Port) : Captured :=
  { statusByte := statusByte s p
    statusAnswer := statusAnswer s p
    resultAnswer := resultAnswer (s.port p) }

/-- The first n bytes of a port read's answer, with fill beyond its end (R152, R198). -/
def shiftOut (answer : List Byte) (n : Nat) : List Byte :=
  answer.take n ++ List.replicate (n - answer.length) 0

end Sys2Proof.Machine
end

