-- ==== Sys2Proof/Machine/Operands.lean ====
section
/-! DEFINITION. The parameters of the commands as they stand on the wire (R197), the resolution of
handles (R33, R34), and the tests a Port Unit makes of a taken command (R159). -/

namespace Sys2Proof.Machine

/-- The byte at an offset, the opcode byte standing at offset 0 (R197). -/
def byteAt (params : List Byte) (offset : Nat) : Byte := params.getD (offset - 1) 0

/-- The word at an offset, most significant byte first (R194). -/
def wordAt (params : List Byte) (offset : Nat) : Word :=
  byteAt params offset ++ byteAt params (offset + 1)

/-- The entry index in a byte; every byte is in range (R42). -/
def indexOf (b : Byte) : Index := b.toFin

/-- The slice in a byte, if it is 0 to 31 (R9). -/
def sliceOf (b : Byte) : Option Slice := if h : b.toNat < 32 then some ⟨b.toNat, h⟩ else none

/-- The handle in a byte, if it is 0 to 15 (R34). -/
def handleOf (b : Byte) : Option Handle := if h : b.toNat < 16 then some ⟨b.toNat, h⟩ else none

/-- The flags a mask names, if it names the seven flags alone (R137, R195). -/
def maskOf (b : Byte) : Option NoticeFlags := if b.getLsbD 7 then none else some (b.setWidth 7)

/-- The entry at a place of a slice (R9). -/
def entryOfSlice (sl : Slice) (k : Fin 8) : Index := ⟨8 * sl.val + k.val, by omega⟩

/-- The eight entries of a slice in index order (R9). -/
def entriesOfSlice (sl : Slice) : List Index :=
  [entryOfSlice sl 0, entryOfSlice sl 1, entryOfSlice sl 2, entryOfSlice sl 3,
    entryOfSlice sl 4, entryOfSlice sl 5, entryOfSlice sl 6, entryOfSlice sl 7]

/-- The entry a handle names through the two windows (R33). -/
def resolveHandle (win0 win1 : Slice) (h : Handle) : Index :=
  if h.val < 8 then ⟨8 * win0.val + h.val % 8, by omega⟩
  else ⟨8 * win1.val + h.val % 8, by omega⟩

/-- The seven notice commands (R145). -/
inductive NoticeCmd where
  | setEnables (mask : NoticeFlags)
  | gateOn
  | gateOff
  | take
  | rearm
  | done (mask : NoticeFlags)
  | clear (mask : NoticeFlags)
deriving DecidableEq, Repr

/-- The commands answered at the take, without a table operation (R161). -/
inductive PortCmd where
  | attachFresh
  | setLifetimes (draft anchor : Byte)
  | setWindows (w0 w1 : Slice)
  | notice (c : NoticeCmd)
  | saveStatus
  | saveAbort
deriving DecidableEq, Repr

/-- Where a taken command goes: refused by the Port Unit (R159), or on one of the paths of R161. -/
inductive Path where
  | refused (a : Answer)
  | atTake (c : PortCmd)
  | table (c : TableCmd) (resolved : Option Index)
deriving DecidableEq, Repr

/-- A parameter that fails the Port Unit's check is refused BAD_PARAM with no payload (R159). -/
def pathOr {α : Type} (o : Option α) (f : α → Path) : Path :=
  match o with
  | some a => f a
  | none => .refused (bare .badParam)

/-- A table operation on the entry that a handle byte names (R34). -/
def handlePath (u : PortUnit) (b : Byte) (f : Index → TableCmd) : Path :=
  pathOr (handleOf b) fun h =>
    let i := resolveHandle u.win0 u.win1 h
    .table (f i) (some i)

/-- A notice command with a mask byte (R137, R143, R144). -/
def maskPath (b : Byte) (f : NoticeFlags → NoticeCmd) : Path :=
  pathOr (maskOf b) fun m => .atTake (.notice (f m))

/-- The path of a command of the expected length on a port that may issue it, after test 6 of R159:
its parameters read from their offsets (R197). -/
def commandPath (u : PortUnit) (o : Opcode) (ps : List Byte) : Path :=
  match o with
  | .attach =>
    if u.session = .attached then .table (.sessionEnd true) none else .atTake .attachFresh
  | .detach => .table (.sessionEnd false) none
  | .setLifetimes => .atTake (.setLifetimes (byteAt ps 1) (byteAt ps 2))
  | .setWindows =>
    match sliceOf (byteAt ps 1), sliceOf (byteAt ps 2) with
    | some w0, some w1 => .atTake (.setWindows w0 w1)
    | _, _ =>
      .refused { status := .badParam, payload := [sliceByte u.win0, sliceByte u.win1] }
  | .getDeviceStatus => .table .deviceStatus none
  | .findTag =>
    if wordAt ps 1 = 0 then .refused (bare .badParam) else .table (.findTag (wordAt ps 1)) none
  | .readEntry => .table (.readEntry (indexOf (byteAt ps 1))) none
  | .readValue => .table (.readValue (indexOf (byteAt ps 1))) none
  | .readSlice => pathOr (sliceOf (byteAt ps 1)) fun sl => .table (.readSlice sl) none
  | .readHandle => handlePath u (byteAt ps 1) .readValue
  | .anchorSet => .table .anchorSet none
  | .anchorDrop => .table .anchorDrop none
  | .readAnchored => .table (.readAnchored (indexOf (byteAt ps 1))) none
  | .readAnchoredHandle => handlePath u (byteAt ps 1) .readAnchored
  | .stageSet => .table (.stageSet (indexOf (byteAt ps 1)) (wordAt ps 2)) none
  | .stageSetHandle => handlePath u (byteAt ps 1) fun i => .stageSet i (wordAt ps 2)
  | .stageDefine => .table (.stageDefine ps) none
  | .stageRebound =>
    .table (.stageRebound (indexOf (byteAt ps 1)) (wordAt ps 2) (wordAt ps 4) (byteAt ps 6)
      (wordAt ps 7)) none
  | .stageRetire => .table (.stageRetire (indexOf (byteAt ps 1))) none
  | .draftView =>
    if byteAt ps 1 = 0 ∨ Config.draftCapacity < (byteAt ps 1).toNat then .refused (bare .badParam)
    else .table (.draftView (byteAt ps 1)) none
  | .draftRemove => .table (.draftRemove (indexOf (byteAt ps 1))) none
  | .draftDiscard => .table .draftDiscard none
  | .release => .table .release none
  | .subscribe => .table (.subscribe (indexOf (byteAt ps 1))) none
  | .subscribeSlice => pathOr (sliceOf (byteAt ps 1)) fun sl => .table (.subscribeSlice sl) none
  | .unsubscribe => .table (.unsubscribe (indexOf (byteAt ps 1))) none
  | .unsubscribeAll => .table .unsubscribeAll none
  | .nextChanged => .table .nextChanged none
  | .setNoticeEnables => maskPath (byteAt ps 1) .setEnables
  | .gateOn => .atTake (.notice .gateOn)
  | .gateOff => .atTake (.notice .gateOff)
  | .takeNotices => .atTake (.notice .take)
  | .noticeRearm => .atTake (.notice .rearm)
  | .noticeDone => maskPath (byteAt ps 1) .done
  | .noticeClear => maskPath (byteAt ps 1) .clear
  | .saveStart => .table .saveStart none
  | .saveAbort => .atTake .saveAbort
  | .saveStatus => .atTake .saveStatus
  | .tableWipe => .table .tableWipe none
  | .tableReload => .table .tableReload none

/-- The commands a DETACHED port may issue (test 4 of R159). -/
def allowedDetached (o : Opcode) : Bool := o == .attach || o == .getDeviceStatus

/-- The commands served for P0 alone (test 5 of R159). -/
def supervisorOnly (o : Opcode) : Bool := o == .tableWipe || o == .tableReload

/-- The tests of R159 in their order, on the opcode the command was sorted to, and then the path of
the command. -/
def judge (s : State) (p : Port) (o : Option Opcode) (ps : List Byte) : Path :=
  if s.save.startup then .refused (bare .notReady)
  else match o with
  | none => .refused (bare .badOpcode)
  | some o =>
    if ps.length + 1 ≠ expectedCount o then
      .refused { status := .length,
                 payload := [count8 (expectedCount o), count8 (min (ps.length + 1) 255)] }
    else if (s.port p).session = .detached ∧ allowedDetached o = false then
      .refused (bare .notAttached)
    else if supervisorOnly o = true ∧ p ≠ .P0 then .refused (bare .notSupervisor)
    else commandPath (s.port p) o ps

/-! ### The parameters of `stage_define` (R68, R195, R197) -/

def kindOf (b : Byte) : Option Kind :=
  if b = 0 then some .unsigned else if b = 1 then some .signed else none

def policyOf (b : Byte) : Option Policy :=
  if b = 0 then some .clamp else if b = 1 then some .refuse else none

/-- A yes or no mark, a presence mark or a target mode: 0 or 1 (R195, R197). -/
def markOf (b : Byte) : Option Bool :=
  if b = 0 then some false else if b = 1 then some true else none

def relationOf (b : Byte) : Option Relation :=
  if b = 1 then some .notAbove else if b = 2 then some .notBelow
  else if b = 3 then some .within else none

/-- A set of ports, if bits 4 to 7 are 0 (R195). -/
def portSetOf (b : Byte) : Option PortSet :=
  if b.toNat < 16 then
    some ⟨b.getLsbD 0, b.getLsbD 1, b.getLsbD 2, b.getLsbD 3⟩
  else none

/-- The coupling of a `stage_define`; outside WITHIN the margin is held as 0 (R68, R197). The outer
option is none for a code outside its set. -/
def couplingOf (ps : List Byte) : Option (Option Coupling) :=
  match markOf (byteAt ps 15) with
  | none => none
  | some false => some none
  | some true =>
    match relationOf (byteAt ps 17) with
    | none => none
    | some rel =>
      some (some
        { partner := indexOf (byteAt ps 16)
          relation := rel
          margin := if rel = .within then wordAt ps 18 else 0 })

/-- The target of a `stage_define`: an index, or none for "any" (R68, R197). -/
def targetOf (ps : List Byte) : Option (Option Index) :=
  match markOf (byteAt ps 1) with
  | none => none
  | some false => some (some (indexOf (byteAt ps 2)))
  | some true => some none

/-- The fields of a `stage_define`, the staging port added to the write set, if every test of R68
passes. -/
def definitionOf (p : Port) (ps : List Byte) : Option Definition :=
  match kindOf (byteAt ps 5), policyOf (byteAt ps 6), markOf (byteAt ps 7),
      portSetOf (byteAt ps 14), couplingOf ps with
  | some k, some pol, some ret, some ws, some cpl =>
    if wordAt ps 3 = 0 ∨ leIn k (wordAt ps 8) (wordAt ps 10) = false then none
    else some
      { tag := wordAt ps 3, kind := k, policy := pol, retain := ret, low := wordAt ps 8
        high := wordAt ps 10, value := wordAt ps 12, writeSet := PortSet.add ws p
        coupling := cpl }
  | _, _, _, _, _ => none

/-- The coupling names the target itself, which R68 refuses. -/
def selfCoupled (target : Option Index) (d : Definition) : Bool :=
  match target, d.coupling with
  | some i, some c => c.partner == i
  | _, _ => false

/-- The parameter test of `stage_define` (R68): the target and the fields, or none for BAD_PARAM. -/
def defineParams (p : Port) (ps : List Byte) : Option (Option Index × Definition) :=
  match targetOf ps, definitionOf p ps with
  | some t, some d => if selfCoupled t d then none else some (t, d)
  | _, _ => none

end Sys2Proof.Machine
end

