-- ==== Sys2Proof/Machine/Anchors.lean ====
section
/-! DEFINITION. The versioned read, the port anchor and its expiry (chapter 3). -/

namespace Sys2Proof.Machine

/-- The answers of the versioned read (R52). -/
inductive Versioned where
  | absent
  | retired (retiredGen : Gen)
  | found (value : Word) (version : Gen)
  | stale (priorGen : Gen)
deriving DecidableEq, Repr

/-- Steps 3 to 5 of the versioned read (R52). With no prior, step 5 is not reached in a table that
satisfies R19; its absent prior_gen would then read 0 (R194, log 24). -/
def versionOf (r : Rec) (a : Gen) : Versioned :=
  if r.changedGen ≤ a then .found r.value r.changedGen
  else match r.prior with
  | some q => if q.gen ≤ a then .found q.value q.gen else .stale q.gen
  | none => .stale 0

/-- The versioned read of an entry at an anchor: the first of the five steps that applies (R52). -/
def versionedRead (c : Content) (a : Gen) : Versioned :=
  match c with
  | .vacant => .absent
  | .live r => if a < r.bornGen then .absent else versionOf r a
  | .retired r rg =>
    if a < r.bornGen then .absent else if rg ≤ a then .retired rg else versionOf r a

/-- `read_anchored(index)` (R53). -/
def opReadAnchored (p : Port) (i : Index) (s : State) : Answer :=
  match s.anchor p with
  | none => bare .noAnchor
  | some a =>
    match versionedRead (s.entry i).content a with
    | .found v g =>
      okWith (be32 a ++ be16 v ++
        [match (s.entry i).rec? with | some r => kindByte r.kind | none => 0] ++ be32 g)
    | .absent => { status := .absent, payload := be32 a }
    | .retired rg => { status := .retired, payload := be32 a ++ be32 rg }
    | .stale pg => { status := .stale, payload := be32 a ++ be32 pg }

/-- `anchor_set`: the anchor becomes G, its countdown restarts, the vacate test is applied (R46). -/
def opAnchorSet (p : Port) (s : State) : State × Answer :=
  (vacateTest (restartAnchor p (s.setAnchor p (some s.table.g))),
    okWith (be32 s.table.g ++ optGen (s.anchor p)))

/-- `anchor_drop`: a held anchor is removed, its countdown stops, the vacate test is applied (R47). -/
def opAnchorDrop (p : Port) (s : State) : State × Answer :=
  match s.anchor p with
  | some a => (vacateTest (stopAnchor p (s.setAnchor p none)), okWith (be32 a))
  | none => (s, bare .noAnchor)

/-- The anchor expiry acts only on a held anchor with an ELAPSED countdown (R50). -/
def anchorExpiryActs (p : Port) (s : State) : Bool :=
  (s.anchor p).isSome && s.timer.anchorCount.get p == .elapsed

/-- The anchor expiry at its grant, after it has left the set of pending expiries (R50). -/
def opAnchorExpiry (p : Port) (s : State) : State :=
  if anchorExpiryActs p s then
    vacateTest (deliverFlag flagPEXP (PortSet.add noPorts p)
      (stopAnchor p (s.setAnchor p none)))
  else s

end Sys2Proof.Machine
end

