-- ==== Sys2Proof/Machine/Image.lean ====
section
/-! DEFINITION. The Save Engine: banks, saves, loads, wipe and reload (chapter 9, R23, R24). -/

namespace Sys2Proof.Machine

/-! ### Banks (R174 to R176) -/

/-- The content of a bank that its CRC guards (R174). -/
def guarded (b : Bank) : Seal :=
  { sequence := b.sequence, gs := b.gs, count := b.count, records := b.records.take b.count }

/-- A bank is valid: marker present, count at most 256, and a matching CRC (R175). -/
def bankValid (b : Bank) : Bool :=
  b.marker && decide (b.count ≤ 256) && b.crc == some (guarded b)

/-- The active bank by the table of R175. -/
def selectBank (st : RetainedStore) : Option BankName :=
  match bankValid st.a, bankValid st.b with
  | true, false => some .A
  | false, true => some .B
  | true, true => if st.a.sequence < st.b.sequence then some .B else some .A
  | false, false => none

/-- The bank a save writes (R176). -/
def targetBank (active : Option BankName) : BankName :=
  match active with
  | some .A => .B
  | some .B => .A
  | none => .A

/-! ### `save_start`, `save_status`, `save_abort` (R178, R186, R188) -/

/-- `save_start` at its grant: the save anchor is set now, the save record at the completion (R177,
R178). -/
def opSaveStart (p : Port) (s : State) : State × Answer × Finish :=
  let r := s.save.record
  if r.state ≠ .idle then
    (s, { status := .saveBusy, payload := [saveStateByte r.state, portOrNoneByte r.starter] },
      .plain)
  else if activeSequence s = Config.lastGen then
    (s, { status := .imageLimit, payload := [bankByte s.save.active] }, .plain)
  else
    (s.setSaveAnchor (some s.table.g),
      okWith (be32 s.table.g ++ [bankByte (some (targetBank s.save.active))]),
      .saveStart p s.table.g)

/-- `save_start` at its completion: the record of the new save, and the erase begun by removing the
target bank's marker (R176, R178). -/
def finishSaveStart (p : Port) (gs : Gen) (s : State) : State :=
  let n := targetBank s.save.active
  (s.withSave { s.save with
      record := { s.save.record with
        state := .erasing, starter := some p, target := some n, gs := some gs, nextIndex := 0,
        copied := 0 }
      work := .erase }).withStore
    (s.store.set n { s.store.get n with marker := false })

/-- `save_status` (R188). -/
def portSaveStatus (s : State) : Answer :=
  okWith (saveStatusPayload (seenRecord s) s.save.active (activeSequence s))

/-- An outcome is decided: it goes to end pending, the work on the Store ceases, and the end request
takes the place of any copy request (R185). -/
def decideOutcome (o : SaveOutcome) (s : State) : State :=
  s.withSave { s.save with
    record := { s.save.record with endPending := some o }
    work := .none
    request := some .finish }

/-- `save_abort`: the first row of R186 that applies, read from the save record that may be seen
(R177). -/
def portSaveAbort (p : Port) (s : State) : State × Answer :=
  let r := seenRecord s
  if r.state = .idle then (s, bare .noSave)
  else if r.starter ≠ some p ∧ p ≠ .P0 then (s, bare .noRight)
  else if r.endPending.isSome ∨ r.state = .closing then (s, bare .saveBusy)
  else
    (decideOutcome .aborted s,
      okWith ([saveStateByte r.state] ++ be32 (r.gs.getD 0) ++ count16 r.copied))

/-! ### The phases (R179 to R184) -/

/-- After the visit of an entry: the next entry is asked for, or CLOSING begins with its header write
(R181, R183). -/
def advanceSave (s : State) : State :=
  let r := s.save.record
  if h : r.nextIndex.val < 255 then
    s.withSave { s.save with
      record := { r with nextIndex := ⟨r.nextIndex.val + 1, by omega⟩ }
      work := .none
      request := some .copy }
  else
    s.withSave { s.save with
      record := { r with state := .closing }
      work := .header
      request := none }

/-- The record formed of an entry with the value found at G_s (R180). -/
def retainedOf (i : Index) (r : Rec) (v : Word) : RetainedRecord :=
  { index := i, tag := r.tag, kind := r.kind, policy := r.policy, low := r.low, high := r.high,
    value := v, owner := r.owner, writeSet := r.writeSet, coupling := r.coupling }

/-- The outcome of the visit of an entry at G_s: the first row of R180 that applies. -/
def visitEntry (i : Index) (c : Content) (gs : Gen) : Visit :=
  match c with
  | .vacant => .noRecord
  | .live r | .retired r _ =>
    if r.retain = false then .noRecord
    else match versionedRead c gs with
    | .absent => .noRecord
    | .retired _ => .noRecord
    | .stale _ => .torn
    | .found v _ => if within r.kind r.low r.high v then .record (retainedOf i r v) else .torn

/-- The copy operation at its grant (R180). -/
def visitNext (s : State) : Visit :=
  let r := s.save.record
  visitEntry r.nextIndex (s.entry r.nextIndex).content (r.gs.getD 0)

/-- The copy operation at its completion: it decides nothing when an outcome was decided meanwhile
(R181, R186). -/
def finishCopy (v : Visit) (s : State) : State :=
  if s.save.record.endPending.isSome then s
  else match v with
  | .noRecord => advanceSave s
  | .torn => decideOutcome .torn s
  | .record r => s.withSave { s.save with work := .program r, request := none }

/-- The erase of the target bank ends (R179). -/
def eraseComplete (verified : Bool) (s : State) : State :=
  if s.save.work = .erase then
    if verified then
      let t := match s.save.record.target with
        | some n => s.withStore (s.store.set n blankBank)
        | none => s
      t.withSave { s.save with
        record := { s.save.record with state := .copying }
        work := .none
        request := some .copy }
    else decideOutcome .fault s
  else s

/-- A record stands programmed at the position equal to records copied (R181). -/
def programRecord (r : RetainedRecord) (copied : Nat) (b : Bank) : Bank :=
  { b with records := b.records.take copied ++ [r] }

/-- The program of a record ends (R181, R184). -/
def programComplete (verified : Bool) (s : State) : State :=
  match s.save.work with
  | .program r =>
    if verified then
      let rcd := s.save.record
      let t := match rcd.target with
        | some n => s.withStore (s.store.set n (programRecord r rcd.copied (s.store.get n)))
        | none => s
      advanceSave (t.withRecord { rcd with copied := rcd.copied + 1 })
    else decideOutcome .fault s
  | _ => s

/-- The header's sequence: the active sequence plus one, or 1 when no bank is active (R183). -/
def headerSequence (s : State) : Gen :=
  match s.save.active with
  | some n => (s.store.get n).sequence + 1
  | none => 1

/-- A bank with its header written, the marker last (R183). -/
def writeHeader (sequence gs : Gen) (count : Nat) (b : Bank) : Bank :=
  let c := { b with marker := true, sequence := sequence, gs := gs, count := count }
  { c with crc := some (guarded c) }

/-- The header write ends: the target bank becomes active and DONE is decided, or the second erase
begins (R183). -/
def headerComplete (verified : Bool) (s : State) : State :=
  if s.save.work = .header then
    match s.save.record.target with
    | some n =>
      if verified then
        let r := s.save.record
        let b := writeHeader (headerSequence s) (r.gs.getD 0) r.copied (s.store.get n)
        decideOutcome .done
          ((s.withStore (s.store.set n b)).withSave { s.save with active := some n })
      else
        (s.withStore (s.store.set n { s.store.get n with marker := false })).withSave
          { s.save with work := .reerase }
    | none => s
  else s

/-- The second erase after a header failure ends: FAULT, whether it verifies or not (R183). -/
def reeraseComplete (verified : Bool) (s : State) : State :=
  if s.save.work = .reerase then
    let t := match s.save.record.target with
      | some n => if verified then s.withStore (s.store.set n blankBank) else s
      | none => s
    decideOutcome .fault t
  else s

/-! ### The end of a save (R185) -/

/-- The end operation at its grant: a held save anchor is dropped with the vacate test (R185). -/
def opSaveEnd (s : State) : State :=
  match s.table.saveAnchor with
  | some _ => vacateTest (s.setSaveAnchor none)
  | none => s

/-- SAVE to every attached port (R133, R185). -/
def deliverSave (s : State) : State :=
  deliver (fun _ => { flags := flagSAVE, indices := [], empties := false }) s

/-- The end operation at its completion (R177, R185). -/
def finishSaveEnd (s : State) : State :=
  deliverSave (s.withRecord { s.save.record with
    state := .idle, lastOutcome := s.save.record.endPending, endPending := none })

/-! ### Wipe (R23, R24, R187) -/

/-- The Table Controller's state after a wipe (R23). -/
def wipedTable : TableController := resetTable

/-- The effects of a wipe on the Table Controller and the Lifetime Timer; pending expiries stay (R23). -/
def wipeTable (s : State) : State :=
  (s.withTable wipedTable).withTimer { s.timer with
    draftCount := .make fun _ => .stopped
    anchorCount := .make fun _ => .stopped }

/-- The save is in ERASING or COPYING (R187). -/
def savePhaseEnds (s : State) : Bool :=
  s.save.record.state == .erasing || s.save.record.state == .copying

/-- `table_wipe` at its grant: a save in ERASING or COPYING stops its work on the Store and any request
of it is withdrawn (R24, R187). -/
def opTableWipe (s : State) : State × Answer × Finish :=
  let ends := savePhaseEnds s
  let t := wipeTable s
  (if ends then t.withSave { s.save with work := .none, request := none } else t,
    okWith (be32 s.table.g), .wipe ends)

/-- WIPE to every attached port with its changed set emptied, and SAVE beside it when a save ends
within the wipe (R24, R134). -/
def deliverWipe (withSave : Bool) (s : State) : State :=
  deliver (fun _ => { flags := flagWIPE ||| flagIf withSave flagSAVE, indices := [],
                      empties := true }) s

/-- `table_wipe` at its completion (R24, R177, R187). -/
def finishWipe (ends : Bool) (s : State) : State :=
  deliverWipe ends
    (if ends then
      s.withSave { s.save with
        record := { s.save.record with
          state := .idle, endPending := none, lastOutcome := some .aborted }
        work := .none
        request := none }
    else s)

/-! ### Loads (R189 to R191) -/

/-- The LIVE record of a loaded entry (R17, R190). -/
def loadedRec (r : RetainedRecord) : Rec :=
  { tag := r.tag, kind := r.kind, policy := r.policy, retain := true, low := r.low,
    high := r.high, value := r.value, changedGen := 0, prior := none, bornGen := 0,
    owner := r.owner, writeSet := r.writeSet, subscribers := noPorts, coupling := r.coupling }

/-- One record loaded into the table, the tag index and the dependents (R190). -/
def loadRecord (t : TableController) (r : RetainedRecord) : TableController :=
  { t with
    entries := t.entries.set r.index.val
      { content := .live (loadedRec r), claim := none, waiters := noPorts } r.index.isLt
    tagIndex := addTag r.tag r.index t.tagIndex
    dependents := match r.coupling with
      | some c => addDependent c.partner r.index t.dependents
      | none => t.dependents }

/-- The records a load reads: those of positions 0 to count − 1 of the active bank (R190). -/
def imageRecords (s : State) : List RetainedRecord :=
  match s.save.active with
  | some n => (s.store.get n).records.take (s.store.get n).count
  | none => []

/-- Both banks are read and the active-bank pointer set (R175), and the image is loaded (R190). -/
def loadImage (s : State) : State :=
  let t := s.withSave { s.save with active := selectBank s.store }
  t.withTable ((imageRecords t).foldl loadRecord t.table)

/-- The G_s of the loaded image, if any (R191). -/
def imageGs (s : State) : Option Gen := s.save.active.map fun n => (s.store.get n).gs

/-- `table_reload` at its grant (R191). -/
def opTableReload (s : State) : State × Answer × Finish :=
  let r := s.save.record
  if r.state ≠ .idle then
    (s, { status := .saveBusy, payload := [saveStateByte r.state, portOrNoneByte r.starter] },
      .plain)
  else
    let t := loadImage (wipeTable (s.withSave { s.save with device := .loading }))
    (t,
      okWith (be32 s.table.g ++ count16 (countEntries Entry.isLive t.table.entries) ++
        [bankByte t.save.active] ++ be32 (activeSequence t) ++ optGen (imageGs t)),
      .reload)

/-- `table_reload` at its completion: READY, and WIPE to every attached port (R191). -/
def finishReload (s : State) : State :=
  deliverWipe false (s.withSave { s.save with device := .ready })

/-- The start-up load (R189): banks read, image loaded, READY, the start-up mark cleared (R163). -/
def startupLoad (s : State) : State :=
  let t := loadImage s
  t.withSave { t.save with device := .ready, startup := false }

end Sys2Proof.Machine
end

