-- ==== Sys2Proof/Machine/Reads.lean ====
section
/-! DEFINITION. The table operations of the current reads and of `get_device_status` (R27, R40 to
R44). Each answers from the state at its grant and changes nothing. -/

namespace Sys2Proof.Machine

/-- `get_device_status` (R27, R201). -/
def opDeviceStatus (s : State) : Answer :=
  okWith ([deviceByte s.save.device] ++ be32 s.table.g ++
    count16 (countEntries Entry.isLive s.table.entries) ++
    count16 (countEntries Entry.isRetired s.table.entries) ++
    count16 (countEntries Entry.isVacant s.table.entries) ++
    [saveStateByte s.save.record.state, outcomeByte s.save.record.lastOutcome,
      bankByte s.save.active] ++ be32 (activeSequence s) ++ [markByte s.save.active.isSome])

/-- `find_tag(tag)`: answered from the tag index (R41). -/
def opFindTag (tag : Word) (s : State) : Answer :=
  match lookupTag tag s.table.tagIndex with
  | some i => okWith [indexByte i]
  | none => bare .notFound

/-- `read_entry(index)` (R42). -/
def opReadEntry (i : Index) (s : State) : Answer := okWith (entryPayload (s.entry i))

/-- `read_value(index)` (R43). -/
def opReadValue (i : Index) (s : State) : Answer :=
  match (s.entry i).content with
  | .live r => okWith (be16 r.value ++ [kindByte r.kind] ++ be32 r.changedGen)
  | .retired r _ =>
    { status := .retired, payload := be16 r.value ++ [kindByte r.kind] ++ be32 r.changedGen }
  | .vacant => bare .vacant

/-- `read_slice(slice)` (R44). -/
def opReadSlice (sl : Slice) (s : State) : Answer :=
  okWith (be32 s.table.g ++ (entriesOfSlice sl).flatMap fun i => sliceEntryBytes (s.entry i))

end Sys2Proof.Machine
end

