-- ==== Sys2Proof/Machine/Drafts.lean ====
section
/-! DEFINITION. Staging, merging, claims and the other draft operations (chapter 4). -/

namespace Sys2Proof.Machine

/-! ### The tests of a stage, in the order of R64 -/

/-- The port's own draft holds a DEFINE item for the entry (R65). -/
def ownDefine (p : Port) (i : Index) (s : State) : Bool :=
  match itemFor (s.draft p) i with
  | some it => it.isDefine
  | none => false

/-- Entry state: RETIRED is refused, and VACANT unless the port's own draft defines it (R65). -/
def entryStateTest (p : Port) (i : Index) (s : State) : Option Status :=
  match (s.entry i).content with
  | .retired _ _ => some .retired
  | .vacant => if ownDefine p i s then none else some .vacant
  | .live _ => none

/-- Rights of a SET: a LIVE entry's write set must hold the port (R65). -/
def writeRightTest (p : Port) (i : Index) (s : State) : Option Status :=
  match (s.entry i).live? with
  | some r => if PortSet.has r.writeSet p then none else some .noRight
  | none => none

/-- Rights of a REBOUND or RETIRE: a LIVE entry's owner must be the port (R66, R67). -/
def ownerTest (p : Port) (i : Index) (s : State) : Option Status :=
  match (s.entry i).live? with
  | some r => if r.owner = p then none else some .noRight
  | none => none

/-- The claim test fails when another port holds the entry's claim: that port (R64, R74). -/
def otherClaimant (p : Port) (i : Index) (s : State) : Option Port :=
  match (s.entry i).claim with
  | some q => if q = p then none else some q
  | none => none

/-- The draft already holds 16 items (R64). -/
def draftIsFull (p : Port) (s : State) : Bool := decide (Config.draftCapacity ≤ (s.draft p).length)

/-- A stage refused CLAIMED: the port joins the waiters (R74). -/
def refuseClaimed (p q : Port) (i : Index) (s : State) : State × Answer :=
  (s.setEntry i { s.entry i with waiters := PortSet.add (s.entry i).waiters p },
    { status := .claimed, payload := [portByte q] })

/-! ### Accepted stages -/

/-- The payload of an accepted stage: position, item kind, item count (R63, R201). -/
def stageAnswer (position : Nat) (kind : Byte) (count : Nat) : Answer :=
  okWith [count8 position, kind, count8 count]

/-- A new item at the end of the draft; the entry's claim becomes the port and the countdown restarts
(R62, R63, R73). -/
def createItem (p : Port) (i : Index) (c : Change) (s : State) : State :=
  restartDraft p
    ((s.setDraft p (s.draft p ++ [{ index := i, change := c }])).setEntry i
      { s.entry i with claim := some p })

/-- The draft-space test and then the new item (R64). -/
def stageNew (p : Port) (i : Index) (c : Change) (s : State) : State × Answer :=
  if draftIsFull p s then (s, bare .draftFull)
  else (createItem p i c s,
    stageAnswer ((s.draft p).length + 1) (changeByte c) ((s.draft p).length + 1))

/-- The draft with the item for an entry changed in its place (R62, R71). -/
def replaceItem (d : List Item) (i : Index) (c : Change) : List Item :=
  d.map fun it => if it.index = i then { it with change := c } else it

/-- A stage merges into the item the draft holds for the entry (R71). -/
def stageMerged (p : Port) (i : Index) (c : Change) (s : State) : State × Answer :=
  (restartDraft p (s.setDraft p (replaceItem (s.draft p) i c)),
    stageAnswer (positionOf (s.draft p) i) (changeByte c) (s.draft p).length)

/-- The draft without the item for an entry, the positions above it moved down (R62). -/
def removeItem (d : List Item) (i : Index) : List Item := d.filter fun it => it.index != i

/-- The item for an entry leaves the draft and the entry's claim ends with FREE (R62, R75). -/
def takeOut (p : Port) (i : Index) (s : State) : State :=
  (endClaims ((s.draft p).filter fun it => it.index == i) s).setDraft p
    (removeItem (s.draft p) i)

/-- A DEFINE is withdrawn by a RETIRE stage: the countdown restarts, or stops when the draft is left
empty (R63, R71). -/
def withdrawDefine (p : Port) (i : Index) (s : State) : State × Answer :=
  let d := removeItem (s.draft p) i
  let t := takeOut p i s
  (if d.isEmpty then stopDraft p t else restartDraft p t,
    stageAnswer (positionOf (s.draft p) i) withdrawnByte d.length)

/-! ### The merge table (R71) -/

/-- A SET merged into an item; none is ITEM_CONFLICT. -/
def mergeSet (v : Word) : Change → Option Change
  | .set _ => some (.set v)
  | .define d => some (.define { d with value := v })
  | .rebound lo hi _ => some (.rebound lo hi (some v))
  | .retire => none

/-- A REBOUND merged into an item; none is ITEM_CONFLICT. -/
def mergeRebound (lo hi : Word) (v : Option Word) : Change → Option Change
  | .set w => some (.rebound lo hi (some (v.getD w)))
  | .define d => some (.define { d with low := lo, high := hi, value := v.getD d.value })
  | .rebound _ _ w => some (.rebound lo hi (v.or w))
  | .retire => none

/-! ### The stage commands -/

/-- The claim test and what follows it for a SET or REBOUND stage: merge conflict, then draft space
(R64). `merge` is the merge into an existing item, `fresh` the change of a new item. -/
def stageChange (p : Port) (i : Index) (merge : Change → Option Change) (fresh : Change)
    (s : State) : State × Answer :=
  match otherClaimant p i s with
  | some q => refuseClaimed p q i s
  | none =>
    match itemFor (s.draft p) i with
    | some it =>
      match merge it.change with
      | some c => stageMerged p i c s
      | none => (s, bare .itemConflict)
    | none => stageNew p i fresh s

/-- `stage_set(index, value)` (R65). -/
def opStageSet (p : Port) (i : Index) (v : Word) (s : State) : State × Answer :=
  match (entryStateTest p i s).or (writeRightTest p i s) with
  | some st => (s, bare st)
  | none => stageChange p i (mergeSet v) (.set v) s

/-- The kind a REBOUND's bounds are compared in: the entry's, or that of the port's DEFINE (R66). -/
def reboundKind (p : Port) (i : Index) (s : State) : Kind :=
  match (s.entry i).rec? with
  | some r => r.kind
  | none =>
    match itemFor (s.draft p) i with
    | some { change := .define d, .. } => d.kind
    | _ => .unsigned

/-- The parameter test of a REBOUND: the value's presence mark is 0 or 1, and low is not above high
(R66, R195). -/
def reboundParams (k : Kind) (lo hi : Word) (mark : Byte) (v : Word) : Option (Option Word) :=
  match markOf mark with
  | none => none
  | some present => if leIn k lo hi then some (if present then some v else none) else none

/-- `stage_rebound(index, low, high, value?)` (R66). -/
def opStageRebound (p : Port) (i : Index) (lo hi : Word) (mark : Byte) (v : Word) (s : State) :
    State × Answer :=
  match (entryStateTest p i s).or (ownerTest p i s) with
  | some st => (s, bare st)
  | none =>
    match reboundParams (reboundKind p i s) lo hi mark v with
    | none => (s, bare .badParam)
    | some w => stageChange p i (mergeRebound lo hi w) (.rebound lo hi w) s

/-- `stage_retire(index)` (R67): a RETIRE merges into every kind of item, and withdraws a DEFINE. -/
def opStageRetire (p : Port) (i : Index) (s : State) : State × Answer :=
  match (entryStateTest p i s).or (ownerTest p i s) with
  | some st => (s, bare st)
  | none =>
    match otherClaimant p i s with
    | some q => refuseClaimed p q i s
    | none =>
      match itemFor (s.draft p) i with
      | some it => if it.isDefine then withdrawDefine p i s else stageMerged p i .retire s
      | none => stageNew p i .retire s

/-- The entry that `stage_define(any)` allocates: the lowest VACANT and unclaimed one, the named
partner passed over (R70). -/
def allocate (d : Definition) (s : State) : Option Index :=
  allIndices.find? fun i =>
    (s.entry i).isVacant && (s.entry i).claim.isNone &&
      (match d.coupling with | some c => i != c.partner | none => true)

/-- The index defined follows the payload of a stage (R63, R201). -/
def withIndexDefined (i : Index) (q : State × Answer) : State × Answer :=
  match q.2.status with
  | .ok => (q.1, okWith (q.2.payload ++ [indexByte i]))
  | _ => q

/-- `stage_define(index, …)` after its parameter test (R69). -/
def stageDefineAt (p : Port) (i : Index) (d : Definition) (s : State) : State × Answer :=
  match (s.entry i).content with
  | .retired _ _ => (s, bare .retired)
  | .live _ => (s, bare .noRight)
  | .vacant =>
    match (s.entry i).claim with
    | some q => if q = p then (s, bare .itemConflict) else refuseClaimed p q i s
    | none => withIndexDefined i (stageNew p i (.define d) s)

/-- `stage_define(any, …)` after its parameter test: draft space, then allocation (R70). -/
def stageDefineAny (p : Port) (d : Definition) (s : State) : State × Answer :=
  if draftIsFull p s then (s, bare .draftFull)
  else match allocate d s with
  | some i => withIndexDefined i (stageNew p i (.define d) s)
  | none => (s, bare .tableFull)

/-- `stage_define` (R68 to R70). -/
def opStageDefine (p : Port) (ps : List Byte) (s : State) : State × Answer :=
  match defineParams p ps with
  | none => (s, bare .badParam)
  | some (some i, d) => stageDefineAt p i d s
  | some (none, d) => stageDefineAny p d s

/-! ### Inspecting, trimming and discarding -/

/-- `draft_view(position)` (R76). -/
def opDraftView (p : Port) (position : Byte) (s : State) : Answer :=
  let d := s.draft p
  match d[position.toNat - 1]? with
  | some it =>
    okWith ([count8 d.length, position, indexByte it.index, changeByte it.change] ++
      changeBytes it.change ++ lifeBytes (s.timer.draftCount.get p))
  | none => { status := .noItem, payload := [count8 d.length] }

/-- `draft_remove(index)` (R77). -/
def opDraftRemove (p : Port) (i : Index) (s : State) : State × Answer :=
  match itemFor (s.draft p) i with
  | none => (s, { status := .noItem, payload := [count8 (s.draft p).length] })
  | some it =>
    let d := removeItem (s.draft p) i
    let t := takeOut p i s
    (if d.isEmpty then stopDraft p t else t,
      stageAnswer (positionOf (s.draft p) i) (changeByte it.change) d.length)

/-- `draft_discard` (R78). -/
def opDraftDiscard (p : Port) (s : State) : State × Answer :=
  (emptyDraft p s, okWith [count8 (s.draft p).length])

/-- The draft expiry acts only on a non-empty draft with an ELAPSED countdown (R82). -/
def draftExpiryActs (p : Port) (s : State) : Bool :=
  !(s.draft p).isEmpty && s.timer.draftCount.get p == .elapsed

/-- The draft expiry at its grant, after it has left the set of pending expiries (R82). -/
def opDraftExpiry (p : Port) (s : State) : State :=
  if draftExpiryActs p s then deliverFlag flagDEXP (PortSet.add noPorts p) (emptyDraft p s)
  else s

end Sys2Proof.Machine
end

