-- ==== Sys2Proof/Machine/Release.lean ====
section
/-! DEFINITION. The release: post-state, checks, refusal and acceptance (chapter 5). -/

namespace Sys2Proof.Machine

/-! ### The post-state (R91, R92) -/

/-- A value brought to its bounds under its policy (R92). -/
def rangeValue (pol : Policy) (k : Kind) (low high v : Word) : Word :=
  match pol with
  | .refuse => v
  | .clamp => if leIn k low v = false then low else if leIn k v high = false then high else v

/-- The value lies outside its bounds under CLAMP, so that its item counts as clamped (R92). -/
def isClamped (pol : Policy) (k : Kind) (low high v : Word) : Bool :=
  pol == .clamp && !within k low high v

/-- A LIVE record that takes post bounds and a post value: stamped with the new G if one of the three
differs (R15, R16), and as it was otherwise (R103). -/
def stampChange (r : Rec) (low high v : Word) (g : Gen) : Rec :=
  if low = r.low ∧ high = r.high ∧ v = r.value then r
  else { r with prior := some { value := r.value, gen := r.changedGen }
                value := v, low := low, high := high, changedGen := g }

/-- The record of a RETIRED entry at its retirement (R18). -/
def stampRetire (r : Rec) (g : Gen) : Rec :=
  { r with prior := some { value := r.value, gen := r.changedGen }, changedGen := g }

/-- The record a DEFINE makes (R17, R103). -/
def definedRec (p : Port) (d : Definition) (g : Gen) : Rec :=
  { tag := d.tag, kind := d.kind, policy := d.policy, retain := d.retain, low := d.low,
    high := d.high, value := rangeValue d.policy d.kind d.low d.high d.value, changedGen := g,
    prior := none, bornGen := g, owner := p, writeSet := d.writeSet, subscribers := noPorts,
    coupling := d.coupling }

/-- The post state of an entry named by an item of port p's draft, stamped with the new G (R91, R103).
An item meets the state of R90: a SET, REBOUND or RETIRE a LIVE entry, a DEFINE a VACANT one. In a
table where it does not, the entry stays as it is (log 24). -/
def postContent (p : Port) (g : Gen) (c : Content) (ch : Change) : Content :=
  match ch, c with
  | .set v, .live r => .live (stampChange r r.low r.high (rangeValue r.policy r.kind r.low r.high v) g)
  | .rebound lo hi v, .live r =>
    .live (stampChange r lo hi (rangeValue r.policy r.kind lo hi (v.getD r.value)) g)
  | .retire, .live r => .retired (stampRetire r g) g
  | .define d, .vacant => .live (definedRec p d g)
  | _, c => c

/-- The post-state of the table: every item of the draft applied (R91). -/
def postState (p : Port) (g : Gen) (items : List Item) (t : Entries) : Entries :=
  items.foldl (fun t it =>
    t.set it.index.val
      { t.get it.index with content := postContent p g (t.get it.index).content it.change }
      it.index.isLt) t

/-- The item carries a value into the post-state that is clamped there (R92). -/
def itemClamped (t : Entries) (it : Item) : Bool :=
  match it.change, (t.get it.index).content with
  | .set v, .live r => isClamped r.policy r.kind r.low r.high v
  | .rebound lo hi v, .live r => isClamped r.policy r.kind lo hi (v.getD r.value)
  | .define d, _ => isClamped d.policy d.kind d.low d.high d.value
  | _, _ => false

/-- A release changes an entry when its value, a bound or its state differs (R15). -/
def contentChanged (old new : Content) : Bool :=
  match old, new with
  | .vacant, .vacant => false
  | .live a, .live b => !(a.value == b.value && a.low == b.low && a.high == b.high)
  | .retired a _, .retired b _ => !(a.value == b.value && a.low == b.low && a.high == b.high)
  | _, _ => true

/-- The item's entry is changed by the release (R102). -/
def itemChanged (old post : Entries) (it : Item) : Bool :=
  contentChanged (old.get it.index).content (post.get it.index).content

/-! ### The checks of one item (R93 to R99) -/

/-- A failing check: its status and its offender (R100). -/
structure Failure where
  status : Status
  offender : Option Index
deriving DecidableEq, Repr

/-- Check (a): the post value against the post bounds (R94). -/
def checkRange (post : Entries) (it : Item) : Option Failure :=
  match it.change, (post.get it.index).live? with
  | .retire, _ => none
  | _, some r => if within r.kind r.low r.high r.value then none else some ⟨.range, none⟩
  | _, none => none

/-- Check (b): the lowest other entry LIVE in the post-state with the DEFINE's tag (R95). -/
def checkTag (post : Entries) (it : Item) : Option Failure :=
  match it.change with
  | .define d =>
    (allIndices.find? fun j =>
      j != it.index &&
        (match (post.get j).live? with | some r => r.tag == d.tag | none => false)).map
      fun j => ⟨.dupTag, some j⟩
  | _ => none

/-- Check (c): the partner of a DEFINE's coupling in the post-state (R96). -/
def checkPartner (post : Entries) (it : Item) : Option Failure :=
  match it.change with
  | .define d =>
    match d.coupling with
    | some c =>
      match (post.get c.partner).live? with
      | some w =>
        if w.kind ≠ d.kind then some ⟨.partner, some c.partner⟩
        else if d.retain = true ∧ w.retain = false then some ⟨.retainPartner, some c.partner⟩
        else none
      | none => some ⟨.partner, some c.partner⟩
    | none => none
  | _ => none

/-- Check (d): the entry's own coupling on post values; a partner not LIVE in the post-state is COUPLED
(R97). -/
def checkOwnCoupling (post : Entries) (it : Item) : Option Failure :=
  match (post.get it.index).live? with
  | some r =>
    match r.coupling with
    | some c =>
      match (post.get c.partner).live? with
      | some w =>
        if relationHolds c r.kind r.value w.value then none else some ⟨.coupling, some it.index⟩
      | none => some ⟨.coupled, some it.index⟩
    | none => none
  | none => none

/-- Check (e) on one dependent (R98). -/
def checkDependent (post : Entries) (it : Item) (d : Index) : Option Failure :=
  match (post.get d).live? with
  | none => none
  | some r =>
    match (post.get it.index).live? with
    | none => some ⟨.coupled, some d⟩
    | some w =>
      match r.coupling with
      | some c =>
        if relationHolds c r.kind r.value w.value then none else some ⟨.coupling, some d⟩
      | none => none

/-- Check (e): the dependents, from the relation before the release, in ascending order (R98). -/
def checkDependents (deps : Vector IndexSet 256) (post : Entries) (it : Item) : Option Failure :=
  (deps.get it.index).findSome? (checkDependent post it)

/-- The checks of one item in their order; (f) always passes (R93, R99). -/
def checkItem (deps : Vector IndexSet 256) (post : Entries) (it : Item) : Option Failure :=
  (checkRange post it).or <| (checkTag post it).or <| (checkPartner post it).or <|
    (checkOwnCoupling post it).or <| checkDependents deps post it

/-- The first failure in position order: position, item, failure (R93). -/
def firstFailure (deps : Vector IndexSet 256) (post : Entries) (items : List Item) :
    Option (Nat × Item × Failure) :=
  (items.zipIdx 1).findSome? fun q => (checkItem deps post q.1).map fun f => (q.2, q.1, f)

/-- The answer of a release refused at stage 4 (R100). -/
def refusalAnswer (position : Nat) (it : Item) (f : Failure) : Answer :=
  { status := f.status
    payload := [count8 position, indexByte it.index] ++
      (match f.offender with | some j => [1, indexByte j] | none => [0, 0]) }

/-! ### Acceptance (R102 to R108) -/

/-- The tag index after a release: the pairs of the entries it retires removed, then those of the
entries it defines added (R8, R104). -/
def releaseTags (old : Entries) (items : List Item) (ti : List (Word × Index)) :
    List (Word × Index) :=
  let removed := items.foldl (fun ti it =>
    match it.change, (old.get it.index).live? with
    | .retire, some r => dropTag r.tag ti
    | _, _ => ti) ti
  items.foldl (fun ti it =>
    match it.change with
    | .define d => addTag d.tag it.index ti
    | _ => ti) removed

/-- The dependents relation after a release (R12, R104). -/
def releaseDependents (old : Entries) (items : List Item) (v : Vector IndexSet 256) :
    Vector IndexSet 256 :=
  items.foldl (fun v it =>
    match it.change, (old.get it.index).live? with
    | .define { coupling := some c, .. }, _ => addDependent c.partner it.index v
    | .retire, some { coupling := some c, .. } => dropDependent c.partner it.index v
    | _, _ => v) v

/-- What the release delivers to a port: CHG and RET with the indices of the changed entries it
subscribes to, unless it is the releasing port, and FREE if it waits on an entry of the draft (R105,
R106). -/
def releaseDelivery (p : Port) (old post : Entries) (items : List Item) (q : Port) : Delivery :=
  let told := items.filter fun it =>
    q != p && itemChanged old post it && (old.get it.index).hasSubscriber q
  { flags :=
      flagIf (told.any fun it => (post.get it.index).isLive) flagCHG |||
      flagIf (told.any fun it => (post.get it.index).isRetired) flagRET |||
      flagIf (PortSet.has (waitersOf old items) q) flagFREE
    indices := told.map Item.index
    empties := false }

/-- How many entries a release changes (R102). -/
def changedCount (old post : Entries) (items : List Item) : Nat := items.countP (itemChanged old post)

/-- G after a release that changes this many entries (R102). -/
def nextGen (g : Gen) (changed : Nat) : Gen := if changed = 0 then g else g + 1

/-- The payload of an accepted release (R108). -/
def releasePayload (g : Gen) (changed : Nat) (clamped : List Item) : List Byte :=
  be32 g ++ [count8 changed, count8 clamped.length] ++
    (match clamped with
      | it :: _ => [1, indexByte it.index]
      | [] => [0, 0])

/-- The table after an accepted release, before its vacate test (R103 to R105). -/
def releasedTable (p : Port) (items : List Item) (post : Entries) (t : TableController) :
    TableController :=
  { t with
    entries := dropClaims post items
    tagIndex := releaseTags t.entries items t.tagIndex
    dependents := releaseDependents t.entries items t.dependents
    g := nextGen t.g (changedCount t.entries post items)
    drafts := t.drafts.set p [] }

/-- The effects of an accepted release (R102 to R107). -/
def acceptRelease (p : Port) (post : Entries) (s : State) : State :=
  let items := s.draft p
  let t := stopDraft p (deliver (releaseDelivery p s.table.entries post items)
    (s.withTable (releasedTable p items post s.table)))
  if items.any Item.isRetire then vacateTest t else t

/-- `release`: the four stages of R87. -/
def opRelease (p : Port) (s : State) : State × Answer :=
  let items := s.draft p
  if items.isEmpty then (s, bare .noDraft)
  else if s.table.g = Config.lastGen then
    (s, { status := .genLimit, payload := [count8 items.length] })
  else
    let post := postState p (s.table.g + 1) items s.table.entries
    match firstFailure s.table.dependents post items with
    | some (n, it, f) => (s, refusalAnswer n it f)
    | none =>
      let changed := changedCount s.table.entries post items
      (acceptRelease p post s,
        okWith (releasePayload (nextGen s.table.g changed) changed
          (items.filter (itemClamped s.table.entries))))

end Sys2Proof.Machine
end

