-- ==== Sys2Proof/Machine/Subscriptions.lean ====
section
/-! DEFINITION. The subscription commands and `next_changed` (R127 to R136). -/

namespace Sys2Proof.Machine

/-- `subscribe(index)` (R127). -/
def opSubscribe (p : Port) (i : Index) (s : State) : State × Answer :=
  let e := s.entry i
  match e.content with
  | .live r =>
    (s.setEntry i (e.mapSubscribers fun ps => PortSet.add ps p),
      okWith (be16 r.tag ++ be32 r.changedGen ++ [markByte (!PortSet.has r.subscribers p)]))
  | .retired _ _ => (s, bare .retired)
  | .vacant => (s, bare .vacant)

/-- The port added to one entry's subscribers if the entry is LIVE (R128). -/
def subscribeLive (p : Port) (s : State) (i : Index) : State :=
  if (s.entry i).isLive then
    s.setEntry i ((s.entry i).mapSubscribers fun ps => PortSet.add ps p)
  else s

/-- `subscribe_slice(slice)` (R128). -/
def opSubscribeSlice (p : Port) (sl : Slice) (s : State) : State × Answer :=
  let live := (entriesOfSlice sl).filter fun i => (s.entry i).isLive
  ((entriesOfSlice sl).foldl (subscribeLive p) s,
    okWith [count8 live.length,
      count8 (live.countP fun i => !(s.entry i).hasSubscriber p)])

/-- `unsubscribe(index)` (R129). -/
def opUnsubscribe (p : Port) (i : Index) (s : State) : State × Answer :=
  let e := s.entry i
  match e.rec? with
  | some _ =>
    (s.setEntry i (e.mapSubscribers fun ps => PortSet.drop ps p),
      okWith [markByte (e.hasSubscriber p)])
  | none => (s, bare .vacant)

/-- The port leaves every subscribers set (R130). -/
def dropSubscriber (p : Port) (s : State) : State :=
  s.withEntries (mapEntries (Entry.mapSubscribers fun ps => PortSet.drop ps p) s.table.entries)

/-- How many subscribers sets hold the port (R130). -/
def subscriptionCount (p : Port) (s : State) : Nat :=
  countEntries (Entry.hasSubscriber p) s.table.entries

/-- `unsubscribe_all` (R130). -/
def opUnsubscribeAll (p : Port) (s : State) : State × Answer :=
  (dropSubscriber p s, okWith (count16 (subscriptionCount p s)))

/-- What `next_changed` answers of an entry (R136, R201). -/
def changedPayload (i : Index) (e : Entry) : List Byte :=
  [indexByte i, contentByte e.content] ++
    (match e.rec? with
      | some r => kindByte r.kind :: (be16 r.value ++ be32 r.changedGen)
      | none => List.replicate 7 0)

/-- `next_changed`: the lowest index leaves the changed set, which is kept ascending (R136). -/
def opNextChanged (p : Port) (s : State) : State × Answer :=
  match (s.notice p).changed with
  | [] => (s, bare .empty)
  | i :: rest =>
    (s.setNotice p { s.notice p with changed := rest }, okWith (changedPayload i (s.entry i)))

end Sys2Proof.Machine
end

