-- ==== Sys2Proof/Machine/Session.lean ====
section
/-! DEFINITION. Sessions, windows and lifetime settings (R29, R30, R165 to R171). -/

namespace Sys2Proof.Machine

/-- Port p's windows and lifetime settings at their values for a fresh or ended session (R29, R171). -/
def defaultSettings (p : Port) (s : State) : State :=
  setLives (s.setPort p { s.port p with win0 := 0, win1 := 1 }) p
    Config.defaultDraftLife Config.defaultAnchorLife

/-- The port is ATTACHED afresh: windows, settings and Notice Unit at their starting values (R166). -/
def freshSession (p : Port) (s : State) : State :=
  let t := defaultSettings p s
  (t.setPort p { t.port p with session := .attached }).setNotice p clearNotice

/-- The answer of a direct `attach` (R166, R201). -/
def freshAnswer (p : Port) : Answer := okWith [portByte p, markByte (p == .P0), 0]

/-- The port leaves every waiters set, with no FREE (R167). -/
def dropWaiter (p : Port) (s : State) : State :=
  s.withEntries (mapEntries (fun e => { e with waiters := PortSet.drop e.waiters p })
    s.table.entries)

/-- Steps 1 to 5 of the session end (R167). -/
def sessionEndWork (p : Port) (s : State) : State :=
  let t := dropWaiter p (dropSubscriber p ((emptyDraft p s).setAnchor p none))
  (stopAnchor p (stopDraft p t)).setNotice p clearNotice

/-- What the session end reports: items discarded, anchor removed, subscriptions removed, entries
vacated (R167, R201). -/
def sessionEndPayload (p : Port) (s : State) : List Byte :=
  [count8 (s.draft p).length] ++ optGen (s.anchor p) ++ count16 (subscriptionCount p s) ++
    count16 (vacateCount (sessionEndWork p s))

/-- The session-end operation at its grant, the vacate test as its last step (R121, R167). -/
def opSessionEnd (p : Port) (reattach : Bool) (s : State) : State × Answer :=
  (vacateTest (sessionEndWork p s),
    okWith ((if reattach then [portByte p, markByte (p == .P0), 1] else []) ++
      sessionEndPayload p s))

/-- The session end at its completion: DETACHED with default settings (R168), or attached afresh
(R169). -/
def finishSession (p : Port) (reattach : Bool) (s : State) : State :=
  if reattach then freshSession p s
  else
    let t := defaultSettings p s
    t.setPort p { t.port p with session := .detached }

/-- `set_windows` in range (R30). -/
def portSetWindows (p : Port) (w0 w1 : Slice) (s : State) : State × Answer :=
  (s.setPort p { s.port p with win0 := w0, win1 := w1 }, okWith [sliceByte w0, sliceByte w1])

/-- `set_lifetimes` (R171). -/
def portSetLifetimes (p : Port) (draft anchor : Byte) (s : State) : State × Answer :=
  (setLives s p draft anchor, okWith [draft, anchor])

end Sys2Proof.Machine
end

