-- ==== Sys2Proof/Machine/Arbiter.lean ====
section
/-! DEFINITION. The table access arbiter: requests, the choice of a requester, the grant with the work
of the operation, and the completion (R20 to R22, R161, R162). The work on the table and the
deliveries it sends are done at the grant, and what the spec places at the completion is done there
(log 4). -/

namespace Sys2Proof.Machine

/-! ### Requests and the search (R21, R22) -/

/-- The requesters in their circular order (R21). -/
def requesterRing : List Requester := [.pu .P0, .pu .P1, .pu .P2, .pu .P3, .timer, .save]

/-- The six requesters from a search start on (R21). -/
def searchOrder (start : Requester) : List Requester :=
  let k := requesterRing.findIdx fun r => r == start
  requesterRing.drop k ++ requesterRing.take k

/-- The requester after the one granted (R21). -/
def nextRequester : Requester → Requester
  | .pu .P0 => .pu .P1
  | .pu .P1 => .pu .P2
  | .pu .P2 => .pu .P3
  | .pu .P3 => .timer
  | .timer => .save
  | .save => .pu .P0

/-- The set of pending expiries by groups of one countdown step, the earliest group first. -/
def expiryGroups (s : State) : List (List Expiry) := s.timer.expiries.filter fun b => !b.isEmpty

/-- A requester holds a request (R22). -/
def holdsRequest (s : State) : Requester → Bool
  | .pu p => (s.port p).request
  | .timer => !(expiryGroups s).isEmpty
  | .save => s.save.request.isSome

/-- The arbiter may grant: nRESET is high, no start-up load is in progress and no table operation is in
progress (R21, R27, R164). -/
def mayGrant (s : State) : Bool := s.nreset && !s.save.startup && s.arbiter.op.isNone

/-- The requester that the next grant serves, if there is one (R21). -/
def nextGrant (s : State) : Option Requester :=
  if mayGrant s then (searchOrder s.arbiter.searchStart).find? (holdsRequest s) else none

/-! ### The work of each operation -/

/-- The table operation of a port's command: the state after its work, the outcome to hand back, and
what is left for the completion. -/
def runTableCmd (p : Port) (c : TableCmd) (s : State) : State × Answer × Finish :=
  let same (a : Answer) : State × Answer × Finish := (s, a, .plain)
  let done (q : State × Answer) : State × Answer × Finish := (q.1, q.2, .plain)
  match c with
  | .sessionEnd re => let q := opSessionEnd p re s; (q.1, q.2, .session p re)
  | .deviceStatus => same (opDeviceStatus s)
  | .findTag t => same (opFindTag t s)
  | .readEntry i => same (opReadEntry i s)
  | .readValue i => same (opReadValue i s)
  | .readSlice sl => same (opReadSlice sl s)
  | .anchorSet => done (opAnchorSet p s)
  | .anchorDrop => done (opAnchorDrop p s)
  | .readAnchored i => same (opReadAnchored p i s)
  | .stageSet i v => done (opStageSet p i v s)
  | .stageDefine ps => done (opStageDefine p ps s)
  | .stageRebound i lo hi m v => done (opStageRebound p i lo hi m v s)
  | .stageRetire i => done (opStageRetire p i s)
  | .draftView k => same (opDraftView p k s)
  | .draftRemove i => done (opDraftRemove p i s)
  | .draftDiscard => done (opDraftDiscard p s)
  | .release => done (opRelease p s)
  | .subscribe i => done (opSubscribe p i s)
  | .subscribeSlice sl => done (opSubscribeSlice p sl s)
  | .unsubscribe i => done (opUnsubscribe p i s)
  | .unsubscribeAll => done (opUnsubscribeAll p s)
  | .nextChanged => done (opNextChanged p s)
  | .saveStart => opSaveStart p s
  | .tableWipe => opTableWipe s
  | .tableReload => opTableReload s

/-- The payload of a handle form begins with the resolved index (R36 to R38, R200). -/
def withHandle (resolved : Option Index) (a : Answer) : Answer :=
  match resolved with
  | some i => { a with payload := indexByte i :: a.payload }
  | none => a

/-- The operation changes the save state or the save record, and so hides its changes from
`save_status` and `save_abort` until its completion (R177). -/
def changesSave (f : Finish) : Bool :=
  match f with
  | .saveStart _ _ | .wipe true | .copy _ | .saveEnd => true
  | .wipe false | .plain | .session _ _ | .reload => false

/-! ### The grant (R20, R21) -/

/-- A table operation is now in progress; the search start passes the granted requester (R21). The
work of no operation changes the save record at its grant, so the record kept is that of the grant
(R177). -/
def beginOperation (r : Requester) (a : Option Answer) (f : Finish) (s : State) : State :=
  s.withArbiter
    { searchStart := nextRequester r
      op := some
        { requester := r, answer := a, finish := f
          saveSeen := if changesSave f then some s.save.record else none } }

/-- The grant of a Port Unit: it drops its request (R22) and the command in flight is performed. -/
def grantPort (p : Port) (s : State) : State :=
  let t := s.setPort p { s.port p with request := false }
  match (s.port p).unit with
  | some f =>
    let q := runTableCmd p f.cmd t
    beginOperation (.pu p) (some (withHandle f.resolved q.2.1)) q.2.2 q.1
  | none => beginOperation (.pu p) none .plain t

/-- An expiry at its grant (R50, R82). -/
def runExpiry (e : Expiry) (s : State) : State :=
  match e with
  | .draft p => opDraftExpiry p s
  | .anchor p => opAnchorExpiry p s

/-- The set of pending expiries without one member (R22). -/
def dropExpiry (e : Expiry) (groups : List (List Expiry)) : List (List Expiry) :=
  (groups.map fun b => b.filter fun x => x != e).filter fun b => !b.isEmpty

/-- The grant of the Lifetime Timer for one member, which leaves the set at the grant (R22). -/
def grantExpiry (e : Expiry) (s : State) : State :=
  let t := s.withTimer { s.timer with expiries := dropExpiry e s.timer.expiries }
  beginOperation .timer none .plain (runExpiry e t)

/-- The grant of the Save Engine (R180, R185). -/
def grantSave (r : SaveRequest) (s : State) : State :=
  let t := s.withSave { s.save with request := none }
  match r with
  | .copy => beginOperation .save none (.copy (visitNext s)) t
  | .finish => beginOperation .save none .saveEnd (opSaveEnd t)

/-- The member of the earliest group that the Lifetime Timer's grant serves: the order within one
countdown step is a free value (R22, log 6). -/
def pickExpiry (group : List Expiry) (n : Nat) : Option Expiry :=
  match group with
  | [] => none
  | [e] => some e
  | e :: es => some ((e :: es).getD (Config.expiryPick n % (es.length + 1)) e)

/-- The grant of the Lifetime Timer to the member chosen by the free value. -/
def grantTimer (s : State) : State :=
  match expiryGroups s with
  | [] => s
  | group :: _ =>
    match pickExpiry group s.freePick with
    | some e => grantExpiry e (s.withPick (s.freePick + 1))
    | none => s

/-- The next grant: nothing where no requester holds a request or an operation is in progress (R21). -/
def grantNext (s : State) : State :=
  match nextGrant s with
  | none => s
  | some (.pu p) => grantPort p s
  | some .timer => grantTimer s
  | some .save =>
    match s.save.request with
    | some r => grantSave r s
    | none => s

/-! ### The completion (R20, R162) -/

/-- The Port Unit writes its result record, marks it valid and returns to IDLE (R162). -/
def writeResult (p : Port) (opcode seq : Byte) (a : Answer) (s : State) : State :=
  s.setPort p { s.port p with
    result := some { opcode := opcode, seq := seq, answer := a }
    resultValid := true
    unit := none }

/-- What an operation still does at its completion. -/
def runFinish (f : Finish) (s : State) : State :=
  match f with
  | .plain => s
  | .session p re => finishSession p re s
  | .wipe ends => finishWipe ends s
  | .reload => finishReload s
  | .saveStart p gs => finishSaveStart p gs s
  | .copy v => finishCopy v s
  | .saveEnd => finishSaveEnd s

/-- The outcome of a port's operation is handed back and its result written (R20, R162). -/
def handBack (op : TableOperation) (s : State) : State :=
  match op.requester, op.answer with
  | .pu p, some a =>
    match (s.port p).unit with
    | some f => writeResult p f.opcode f.seq a s
    | none => s
  | _, _ => s

/-- The completion of the operation in progress, if there is one (R20). -/
def completeOperation (s : State) : State :=
  match s.arbiter.op with
  | none => s
  | some op =>
    handBack op (runFinish op.finish (s.withArbiter { s.arbiter with op := none }))

end Sys2Proof.Machine
end

