-- ==== Sys2Proof/Machine/Notices.lean ====
section
/-! DEFINITION. The notice commands at the port (R137 to R145). -/

namespace Sys2Proof.Machine

/-- The Notice Unit's response to a notice command (R137, R140 to R144). -/
def noticeStep (c : NoticeCmd) (n : NoticeUnit) : NoticeUnit :=
  match c with
  | .setEnables m => noticeSetEnables m n
  | .gateOn => noticeGateOn n
  | .gateOff => noticeGateOff n
  | .take => noticeTake n
  | .rearm => noticeRearm n
  | .done m => noticeDone m n
  | .clear m => noticeClear m n

/-- A notice command performed, and answered as the unit stands after it (R145). -/
def portNotice (p : Port) (c : NoticeCmd) (s : State) : State × Answer :=
  let n := noticeStep c (s.notice p)
  (s.setNotice p n, okWith (noticePayload n))

end Sys2Proof.Machine
end

