-- ==== Sys2Proof/Machine/Link.lean ====
section
/-! DEFINITION. The link of a port: transactions, port reads, and the taking of a command (R151 to
R162). -/

namespace Sys2Proof.Machine

/-- The commands answered at the take (R161). -/
def runPortCmd (p : Port) (c : PortCmd) (s : State) : State × Answer :=
  match c with
  | .attachFresh => (freshSession p s, freshAnswer p)
  | .setLifetimes d a => portSetLifetimes p d a s
  | .setWindows w0 w1 => portSetWindows p w0 w1 s
  | .notice c => portNotice p c s
  | .saveStatus => (s, portSaveStatus s)
  | .saveAbort => portSaveAbort p s

/-- The take of a command by an IDLE command unit: the sequence number advances, the record is marked
not valid (R156), and the command follows its path (R159, R161). `o` is the command the opcode byte
was sorted to. -/
def takeCommand (p : Port) (opcode : Byte) (o : Option Opcode) (params : List Byte) (s : State) :
    State :=
  let n := (s.port p).seq + 1
  let t := s.setPort p { s.port p with seq := n, resultValid := false }
  match judge s p o params with
  | .refused a => writeResult p opcode n a t
  | .atTake c => let q := runPortCmd p c t; writeResult p opcode n q.2 q.1
  | .table c resolved =>
    t.setPort p { t.port p with
      unit := some { opcode := opcode, seq := n, params := params, cmd := c,
                     resolved := resolved }
      request := true }

/-- nCS of port p falls: the port fields are captured, or the transaction is ignored as a whole while
nRESET is low (R153, R164). A fall needs nCS high: with nCS low already there is none (log 2). -/
def beginTransaction (p : Port) (s : State) : State :=
  match (s.port p).link with
  | .idle =>
    if s.nreset then
      s.setPort p { s.port p with link := .selected (capture s p), sdo := [] }
    else s.setPort p { s.port p with link := .ignored, sdo := [] }
  | _ => s

/-- nCS of port p rises, its link idle afterwards (R151); SDO is no longer held if nRESET has risen
(R164). With nCS high already there is no rise (log 2). -/
def endTransaction (p : Port) (s : State) : State :=
  match (s.port p).link with
  | .idle => s
  | .selected _ | .answering | .ignored =>
    s.setPort p { s.port p with link := .idle, sdoHeld := (s.port p).sdoHeld && !s.nreset }

/-- The bytes that appear on SDO: none while it is held in high impedance (R164). -/
def driven (u : PortUnit) (bytes : List Byte) : List Byte := if u.sdoHeld then [] else bytes

/-- The bytes shifted out in the transaction so far (R151, log 3). -/
def shiftBytes (p : Port) (bytes : List Byte) (s : State) : State :=
  s.setPort p { s.port p with sdo := driven (s.port p) bytes }

/-- A port read: the status byte and then the captured answer, with fill beyond its end (R152, R198).
It is answered on a transaction whose opcode is yet to come. -/
def portRead (p : Port) (answer : Captured → List Byte) (extra : List Byte) (s : State) : State :=
  let t := beginTransaction p s
  match (t.port p).link with
  | .selected c =>
    t.setPort p { t.port p with
      link := .answering
      sdo := driven (t.port p) (c.statusByte :: shiftOut (answer c) extra.length) }
  | _ => t

/-- A command or unknown-opcode transaction ends with the rise of nCS: it is taken when the command
unit is IDLE and discarded when it is EXECUTING (R156, R157). On an ignored transaction, or one that a
port read already answers, the bytes are not interpreted (R164, R196). -/
def commandTransaction (p : Port) (opcode : Byte) (o : Option Opcode) (params : List Byte)
    (s : State) : State :=
  let t := beginTransaction p s
  match (t.port p).link with
  | .selected c =>
    let d := endTransaction p (shiftBytes p (c.statusByte :: List.replicate params.length 0) t)
    if (d.port p).unit.isSome then d else takeCommand p opcode o params d
  | _ => endTransaction p t

/-- A whole transaction given by its bytes, sorted by its opcode (R152). -/
def byteTransaction (p : Port) (opcode : Byte) (params : List Byte) (s : State) : State :=
  if opcode = readStatusByte then endTransaction p (portRead p Captured.statusAnswer params s)
  else if opcode = readResultByte then endTransaction p (portRead p Captured.resultAnswer params s)
  else commandTransaction p opcode (opcodeOf opcode) params s

/-- The transaction of a named command (R196). -/
def namedTransaction (p : Port) (o : Opcode) (params : List Byte) (s : State) : State :=
  commandTransaction p (opcodeByte o) (some o) params s

end Sys2Proof.Machine
end

