-- ==== Sys2Proof/Machine/Commands.lean ====
section
/-! DEFINITION. The meanings of the rows that are transactions of a named command, of an unknown
opcode, or discarded. Each is taken or discarded at the rise of nCS (R156, R157); a table operation is
then performed at its grant and answered at its completion (R161, R162). -/

namespace Sys2Proof.Machine

/-- The outcome of a row. -/
abbrev Result := Host.Outcome State Fault Refusal

/-- ATTACH: on a DETACHED port the fresh session at the take (R166), on an ATTACHED port the request for the session-end operation (R169); performed by `freshSession`, `opSessionEnd` and `finishSession`. -/
def execAttach (p : Port) (params : List Byte) (s : State) : Result :=
  .next (namedTransaction p .attach params s)

/-- DETACH: the request for the session-end operation (R168), performed by `opSessionEnd` and `finishSession`. -/
def execDetach (p : Port) (params : List Byte) (s : State) : Result :=
  .next (namedTransaction p .detach params s)

/-- SET_LIFETIMES: answered at the take by `portSetLifetimes` (R171). -/
def execSetLifetimes (p : Port) (params : List Byte) (s : State) : Result :=
  .next (namedTransaction p .setLifetimes params s)

/-- SET_WINDOWS: answered at the take by `portSetWindows`, or refused BAD_PARAM (R30, R31). -/
def execSetWindows (p : Port) (params : List Byte) (s : State) : Result :=
  .next (namedTransaction p .setWindows params s)

/-- GET_DEVICE_STATUS: a table operation performed by `opDeviceStatus` (R27). -/
def execGetDeviceStatus (p : Port) (params : List Byte) (s : State) : Result :=
  .next (namedTransaction p .getDeviceStatus params s)

/-- FIND_TAG: a table operation performed by `opFindTag` (R41). -/
def execFindTag (p : Port) (params : List Byte) (s : State) : Result :=
  .next (namedTransaction p .findTag params s)

/-- READ_ENTRY: a table operation performed by `opReadEntry` (R42). -/
def execReadEntry (p : Port) (params : List Byte) (s : State) : Result :=
  .next (namedTransaction p .readEntry params s)

/-- READ_VALUE: a table operation performed by `opReadValue` (R43). -/
def execReadValue (p : Port) (params : List Byte) (s : State) : Result :=
  .next (namedTransaction p .readValue params s)

/-- READ_SLICE: a table operation performed by `opReadSlice` (R44). -/
def execReadSlice (p : Port) (params : List Byte) (s : State) : Result :=
  .next (namedTransaction p .readSlice params s)

/-- READ_HANDLE: its handle resolved at the take, a table operation performed by `opReadValue` (R36). -/
def execReadHandle (p : Port) (params : List Byte) (s : State) : Result :=
  .next (namedTransaction p .readHandle params s)

/-- ANCHOR_SET: a table operation performed by `opAnchorSet` (R46). -/
def execAnchorSet (p : Port) (params : List Byte) (s : State) : Result :=
  .next (namedTransaction p .anchorSet params s)

/-- ANCHOR_DROP: a table operation performed by `opAnchorDrop` (R47). -/
def execAnchorDrop (p : Port) (params : List Byte) (s : State) : Result :=
  .next (namedTransaction p .anchorDrop params s)

/-- READ_ANCHORED: a table operation performed by `opReadAnchored` (R53). -/
def execReadAnchored (p : Port) (params : List Byte) (s : State) : Result :=
  .next (namedTransaction p .readAnchored params s)

/-- READ_ANCHORED_HANDLE: its handle resolved at the take, a table operation performed by `opReadAnchored` (R37). -/
def execReadAnchoredHandle (p : Port) (params : List Byte) (s : State) : Result :=
  .next (namedTransaction p .readAnchoredHandle params s)

/-- STAGE_SET: a table operation performed by `opStageSet` (R65). -/
def execStageSet (p : Port) (params : List Byte) (s : State) : Result :=
  .next (namedTransaction p .stageSet params s)

/-- STAGE_SET_HANDLE: its handle resolved at the take, a table operation performed by `opStageSet` (R38). -/
def execStageSetHandle (p : Port) (params : List Byte) (s : State) : Result :=
  .next (namedTransaction p .stageSetHandle params s)

/-- STAGE_DEFINE: a table operation performed by `opStageDefine` (R68 to R70). -/
def execStageDefine (p : Port) (params : List Byte) (s : State) : Result :=
  .next (namedTransaction p .stageDefine params s)

/-- STAGE_REBOUND: a table operation performed by `opStageRebound` (R66). -/
def execStageRebound (p : Port) (params : List Byte) (s : State) : Result :=
  .next (namedTransaction p .stageRebound params s)

/-- STAGE_RETIRE: a table operation performed by `opStageRetire` (R67). -/
def execStageRetire (p : Port) (params : List Byte) (s : State) : Result :=
  .next (namedTransaction p .stageRetire params s)

/-- DRAFT_VIEW: a table operation performed by `opDraftView` (R76). -/
def execDraftView (p : Port) (params : List Byte) (s : State) : Result :=
  .next (namedTransaction p .draftView params s)

/-- DRAFT_REMOVE: a table operation performed by `opDraftRemove` (R77). -/
def execDraftRemove (p : Port) (params : List Byte) (s : State) : Result :=
  .next (namedTransaction p .draftRemove params s)

/-- DRAFT_DISCARD: a table operation performed by `opDraftDiscard` (R78). -/
def execDraftDiscard (p : Port) (params : List Byte) (s : State) : Result :=
  .next (namedTransaction p .draftDiscard params s)

/-- RELEASE: a table operation performed by `opRelease` (R86 to R110). -/
def execRelease (p : Port) (params : List Byte) (s : State) : Result :=
  .next (namedTransaction p .release params s)

/-- SUBSCRIBE: a table operation performed by `opSubscribe` (R127). -/
def execSubscribe (p : Port) (params : List Byte) (s : State) : Result :=
  .next (namedTransaction p .subscribe params s)

/-- SUBSCRIBE_SLICE: a table operation performed by `opSubscribeSlice` (R128). -/
def execSubscribeSlice (p : Port) (params : List Byte) (s : State) : Result :=
  .next (namedTransaction p .subscribeSlice params s)

/-- UNSUBSCRIBE: a table operation performed by `opUnsubscribe` (R129). -/
def execUnsubscribe (p : Port) (params : List Byte) (s : State) : Result :=
  .next (namedTransaction p .unsubscribe params s)

/-- UNSUBSCRIBE_ALL: a table operation performed by `opUnsubscribeAll` (R130). -/
def execUnsubscribeAll (p : Port) (params : List Byte) (s : State) : Result :=
  .next (namedTransaction p .unsubscribeAll params s)

/-- NEXT_CHANGED: a table operation performed by `opNextChanged` (R136). -/
def execNextChanged (p : Port) (params : List Byte) (s : State) : Result :=
  .next (namedTransaction p .nextChanged params s)

/-- SET_NOTICE_ENABLES: answered at the take by `noticeSetEnables` (R137). -/
def execSetNoticeEnables (p : Port) (params : List Byte) (s : State) : Result :=
  .next (namedTransaction p .setNoticeEnables params s)

/-- GATE_ON: answered at the take by `noticeGateOn` (R140). -/
def execGateOn (p : Port) (params : List Byte) (s : State) : Result :=
  .next (namedTransaction p .gateOn params s)

/-- GATE_OFF: answered at the take by `noticeGateOff` (R140). -/
def execGateOff (p : Port) (params : List Byte) (s : State) : Result :=
  .next (namedTransaction p .gateOff params s)

/-- TAKE_NOTICES: answered at the take by `noticeTake` (R141). -/
def execTakeNotices (p : Port) (params : List Byte) (s : State) : Result :=
  .next (namedTransaction p .takeNotices params s)

/-- NOTICE_REARM: answered at the take by `noticeRearm` (R142). -/
def execNoticeRearm (p : Port) (params : List Byte) (s : State) : Result :=
  .next (namedTransaction p .noticeRearm params s)

/-- NOTICE_DONE: answered at the take by `noticeDone` (R143). -/
def execNoticeDone (p : Port) (params : List Byte) (s : State) : Result :=
  .next (namedTransaction p .noticeDone params s)

/-- NOTICE_CLEAR: answered at the take by `noticeClear` (R144). -/
def execNoticeClear (p : Port) (params : List Byte) (s : State) : Result :=
  .next (namedTransaction p .noticeClear params s)

/-- SAVE_START: a table operation performed by `opSaveStart` and `finishSaveStart` (R178). -/
def execSaveStart (p : Port) (params : List Byte) (s : State) : Result :=
  .next (namedTransaction p .saveStart params s)

/-- SAVE_ABORT: answered at the take by `portSaveAbort` (R186). -/
def execSaveAbort (p : Port) (params : List Byte) (s : State) : Result :=
  .next (namedTransaction p .saveAbort params s)

/-- SAVE_STATUS: answered at the take by `portSaveStatus` (R188). -/
def execSaveStatus (p : Port) (params : List Byte) (s : State) : Result :=
  .next (namedTransaction p .saveStatus params s)

/-- TABLE_WIPE: a table operation performed by `opTableWipe` and `finishWipe` (R23, R24, R187). -/
def execTableWipe (p : Port) (params : List Byte) (s : State) : Result :=
  .next (namedTransaction p .tableWipe params s)

/-- TABLE_RELOAD: a table operation performed by `opTableReload` and `finishReload` (R191). -/
def execTableReload (p : Port) (params : List Byte) (s : State) : Result :=
  .next (namedTransaction p .tableReload params s)

/-- UNKNOWN_OPCODE: taken and answered BAD_OPCODE, or discarded (R152, R159). The transaction is what
its bytes say: with an opcode that does name a command or a port read, it is that one (log 21). -/
def execUnknownOpcode (p : Port) (opcode : Byte) (params : List Byte) (s : State) : Result :=
  .next (byteTransaction p opcode params s)

/-- COMMAND_DISCARD: with the command unit EXECUTING the transaction has no effect on any state of the
part but its link (R157). With the unit IDLE at the rise of nCS it is taken (R156, log 21). -/
def execCommandDiscard (p : Port) (opcode : Byte) (params : List Byte) (s : State) : Result :=
  .next (byteTransaction p opcode params s)

end Sys2Proof.Machine
end

