-- ==== Sys2Proof/Machine/ChipReset.lean ====
section
/-! DEFINITION. Chip reset (R164, R192). -/

namespace Sys2Proof.Machine

/-- A link while nRESET is low: a transaction on the wire is abandoned (R164). -/
def abandonLink : Link → Link
  | .idle => .idle
  | .selected _ | .answering | .ignored => .ignored

/-- SDO of the port is held in high impedance from now on: nCS is low as nRESET falls, or it is held
already (R164). -/
def heldAtFall (u : PortUnit) : Bool := u.sdoHeld || u.link != .idle

/-- Every block held in reset: nATTN high, commands in flight lost, the Save Engine stopped with the
Retained Store as it stands, the transactions on the wire abandoned (R164, R192). The device state is
LOADING only from the rise of nRESET on (R163). -/
def holdInReset (s : State) : State :=
  let t := startState (.make fun p => abandonLink (s.port p).link)
    (.make fun p => heldAtFall (s.port p)) s.store s.freePick s.pending
  (t.withNreset false).withSave { t.save with device := .ready, startup := false }

/-- nRESET falls; with nRESET low already there is no fall (log 2). -/
def resetFalls (s : State) : State := if s.nreset then holdInReset s else s

/-- nRESET rises, or power is applied: every unit starts in its reset state, LOADING (R164, R189). The
Retained Store keeps its contents (R174). With nRESET high before, the event is power-on (log 12). -/
def resetRises (s : State) : State :=
  let t := resetFalls s
  startState (.make fun p => (t.port p).link) (.make fun p => (t.port p).sdoHeld) t.store t.freePick t.pending

end Sys2Proof.Machine
end

