-- ==== Sys2Proof/Machine/Timer.lean ====
section
/-! DEFINITION. The Lifetime Timer: the time base and the posting of expiries (R22, R49, R80). -/

namespace Sys2Proof.Machine

/-- Expiries of one instant join the set of pending expiries, those already members left out (R22). -/
def postExpiries (es : List Expiry) (s : State) : State :=
  let fresh := es.filter fun e => !(s.timer.expiries.any fun b => b.contains e)
  if fresh.isEmpty then s
  else s.withTimer { s.timer with expiries := s.timer.expiries ++ [fresh] }

/-- The four ports. -/
def allPorts : List Port := [.P0, .P1, .P2, .P3]

/-- The expiries whose countdowns reach zero at the next step (R49, R80). -/
def elapsing (t : LifetimeTimer) : List Expiry :=
  ((allPorts.filter fun p => reachesZero (t.draftCount.get p)).map Expiry.draft) ++
    ((allPorts.filter fun p => reachesZero (t.anchorCount.get p)).map Expiry.anchor)

/-- One step of the 10 ms time base: every countdown steps at the same instant, and those that reach
zero become ELAPSED and post their expiries (R49, R80). No countdown steps while nRESET is low (R164). -/
def timeStep (s : State) : State :=
  if s.nreset then
    postExpiries (elapsing s.timer) (s.withTimer { s.timer with
      draftCount := .make fun p => stepCount (s.timer.draftCount.get p)
      anchorCount := .make fun p => stepCount (s.timer.anchorCount.get p) })
  else s

/-- Port p's draft countdown reaches zero (R80). -/
def draftElapses (p : Port) (s : State) : State :=
  if s.nreset && reachesZero (s.timer.draftCount.get p) then
    postExpiries [.draft p] (setDraftCount s p .elapsed)
  else s

/-- Port p's anchor countdown reaches zero (R49). -/
def anchorElapses (p : Port) (s : State) : State :=
  if s.nreset && reachesZero (s.timer.anchorCount.get p) then
    postExpiries [.anchor p] (setAnchorCount s p .elapsed)
  else s

end Sys2Proof.Machine
end

