-- ==== Sys2Proof/Machine/Events.lean ====
section
/-! DEFINITION. The meanings of the rows that are no transaction of a command: the edges of nCS, the
port reads, the arbiter, the Lifetime Timer, the Save Engine and chip reset. An event that cannot come
about in a state leaves that state as it is (log 2). -/

namespace Sys2Proof.Machine

/-- NCS_FALL (R151, R153). -/
def execNcsFall (p : Port) (s : State) : Result := .next (beginTransaction p s)

/-- READ_STATUS: the fields captured at the fall of nCS are shifted out (R154, R199). -/
def execReadStatus (p : Port) (extra : List Byte) (s : State) : Result :=
  .next (portRead p Captured.statusAnswer extra s)

/-- READ_RESULT: the result record captured at the fall of nCS is shifted out (R155, R200). -/
def execReadResult (p : Port) (extra : List Byte) (s : State) : Result :=
  .next (portRead p Captured.resultAnswer extra s)

/-- TRANSACTION_END: nCS rises and nothing is taken (R151, R164). -/
def execTransactionEnd (p : Port) (s : State) : Result := .next (endTransaction p s)

/-- TABLE_OPERATION_GRANT (R20, R21). -/
def execTableOperationGrant (s : State) : Result := .next (grantNext s)

/-- TABLE_OPERATION_COMPLETION (R20, R162). -/
def execTableOperationCompletion (s : State) : Result := .next (completeOperation s)

/-- The command in flight of a port asks for the session end (R168, R169). -/
def asksSessionEnd (p : Port) (s : State) : Bool :=
  match (s.port p).unit with
  | some { cmd := .sessionEnd _, .. } => true
  | _ => false

/-- SESSION_END: the grant of a port's session-end operation, where the arbiter's next grant is that
one (R21, R167, log 20). -/
def execSessionEnd (p : Port) (s : State) : Result :=
  .next (if nextGrant s = some (.pu p) ∧ asksSessionEnd p s = true then grantPort p s else s)

/-- The Timer's next grant may serve this expiry: the Timer is granted next, and the expiry stands in
the earliest group, whose members serve in any order (R21, R22). -/
def mayServe (e : Expiry) (s : State) : Bool :=
  nextGrant s == some .timer && (expiryGroups s).head?.any fun b => b.contains e

/-- DRAFT_EXPIRY: the grant of the Lifetime Timer in which port p's draft expiry is served (R22, R82,
log 20). -/
def execDraftExpiry (p : Port) (s : State) : Result :=
  .next (if mayServe (.draft p) s then grantExpiry (.draft p) s else s)

/-- ANCHOR_EXPIRY: the grant of the Lifetime Timer in which port p's anchor expiry is served (R22, R50,
log 20). -/
def execAnchorExpiry (p : Port) (s : State) : Result :=
  .next (if mayServe (.anchor p) s then grantExpiry (.anchor p) s else s)

/-- SAVE_COPY: the grant of the Save Engine's copy request (R21, R180, log 20). -/
def execSaveCopy (s : State) : Result :=
  .next (if nextGrant s = some .save ∧ s.save.request = some .copy then grantSave .copy s else s)

/-- SAVE_END: the grant of the Save Engine's end request (R21, R185, log 20). -/
def execSaveEnd (s : State) : Result :=
  .next (if nextGrant s = some .save ∧ s.save.request = some .finish then grantSave .finish s
    else s)

/-- TIME_BASE_STEP (R49, R80). -/
def execTimeBaseStep (s : State) : Result := .next (timeStep s)

/-- DRAFT_COUNTDOWN_ELAPSED (R80, log 7). -/
def execDraftCountdownElapsed (p : Port) (s : State) : Result := .next (draftElapses p s)

/-- ANCHOR_COUNTDOWN_ELAPSED (R49, log 7). -/
def execAnchorCountdownElapsed (p : Port) (s : State) : Result := .next (anchorElapses p s)

/-- SAVE_ERASE_COMPLETE (R179). -/
def execSaveEraseComplete (verified : Bool) (s : State) : Result :=
  .next (eraseComplete verified s)

/-- RECORD_PROGRAM_COMPLETE (R181). -/
def execRecordProgramComplete (verified : Bool) (s : State) : Result :=
  .next (programComplete verified s)

/-- HEADER_WRITE_COMPLETE (R183). -/
def execHeaderWriteComplete (verified : Bool) (s : State) : Result :=
  .next (headerComplete verified s)

/-- HEADER_REERASE_COMPLETE (R183). -/
def execHeaderReeraseComplete (verified : Bool) (s : State) : Result :=
  .next (reeraseComplete verified s)

/-- NRESET_FALL (R164, R192). -/
def execNresetFall (s : State) : Result := .next (resetFalls s)

/-- NRESET_RISE (R164, R189). -/
def execNresetRise (s : State) : Result := .next (resetRises s)

/-- STARTUP_LOAD: while the start-up mark is set and nRESET is high (R163, R189). -/
def execStartupLoad (s : State) : Result :=
  .next (if s.nreset && s.save.startup then startupLoad s else s)

end Sys2Proof.Machine
end

