-- ==== Sys2Proof/Machine/Dispatch.lean ====
section
/-! DEFINITION. The meaning of every row of spec/opcode_table.json, one arm for each. -/

namespace Sys2Proof.Machine

def exec (i : Instr) (s : State) : Host.Outcome State Fault Refusal :=
  match i with
  | .ncsFall p => Sys2Proof.Machine.execNcsFall p s
  | .readStatus p extra => Sys2Proof.Machine.execReadStatus p extra s
  | .readResult p extra => Sys2Proof.Machine.execReadResult p extra s
  | .attach p params => Sys2Proof.Machine.execAttach p params s
  | .detach p params => Sys2Proof.Machine.execDetach p params s
  | .sessionEnd p => Sys2Proof.Machine.execSessionEnd p s
  | .setLifetimes p params => Sys2Proof.Machine.execSetLifetimes p params s
  | .setWindows p params => Sys2Proof.Machine.execSetWindows p params s
  | .getDeviceStatus p params => Sys2Proof.Machine.execGetDeviceStatus p params s
  | .findTag p params => Sys2Proof.Machine.execFindTag p params s
  | .readEntry p params => Sys2Proof.Machine.execReadEntry p params s
  | .readValue p params => Sys2Proof.Machine.execReadValue p params s
  | .readSlice p params => Sys2Proof.Machine.execReadSlice p params s
  | .readHandle p params => Sys2Proof.Machine.execReadHandle p params s
  | .anchorSet p params => Sys2Proof.Machine.execAnchorSet p params s
  | .anchorDrop p params => Sys2Proof.Machine.execAnchorDrop p params s
  | .readAnchored p params => Sys2Proof.Machine.execReadAnchored p params s
  | .readAnchoredHandle p params => Sys2Proof.Machine.execReadAnchoredHandle p params s
  | .stageSet p params => Sys2Proof.Machine.execStageSet p params s
  | .stageSetHandle p params => Sys2Proof.Machine.execStageSetHandle p params s
  | .stageDefine p params => Sys2Proof.Machine.execStageDefine p params s
  | .stageRebound p params => Sys2Proof.Machine.execStageRebound p params s
  | .stageRetire p params => Sys2Proof.Machine.execStageRetire p params s
  | .draftView p params => Sys2Proof.Machine.execDraftView p params s
  | .draftRemove p params => Sys2Proof.Machine.execDraftRemove p params s
  | .draftDiscard p params => Sys2Proof.Machine.execDraftDiscard p params s
  | .release p params => Sys2Proof.Machine.execRelease p params s
  | .subscribe p params => Sys2Proof.Machine.execSubscribe p params s
  | .subscribeSlice p params => Sys2Proof.Machine.execSubscribeSlice p params s
  | .unsubscribe p params => Sys2Proof.Machine.execUnsubscribe p params s
  | .unsubscribeAll p params => Sys2Proof.Machine.execUnsubscribeAll p params s
  | .nextChanged p params => Sys2Proof.Machine.execNextChanged p params s
  | .setNoticeEnables p params => Sys2Proof.Machine.execSetNoticeEnables p params s
  | .gateOn p params => Sys2Proof.Machine.execGateOn p params s
  | .gateOff p params => Sys2Proof.Machine.execGateOff p params s
  | .takeNotices p params => Sys2Proof.Machine.execTakeNotices p params s
  | .noticeRearm p params => Sys2Proof.Machine.execNoticeRearm p params s
  | .noticeDone p params => Sys2Proof.Machine.execNoticeDone p params s
  | .noticeClear p params => Sys2Proof.Machine.execNoticeClear p params s
  | .saveStart p params => Sys2Proof.Machine.execSaveStart p params s
  | .saveAbort p params => Sys2Proof.Machine.execSaveAbort p params s
  | .saveStatus p params => Sys2Proof.Machine.execSaveStatus p params s
  | .tableWipe p params => Sys2Proof.Machine.execTableWipe p params s
  | .tableReload p params => Sys2Proof.Machine.execTableReload p params s
  | .unknownOpcode p opcode params => Sys2Proof.Machine.execUnknownOpcode p opcode params s
  | .commandDiscard p opcode params => Sys2Proof.Machine.execCommandDiscard p opcode params s
  | .tableOperationGrant => Sys2Proof.Machine.execTableOperationGrant s
  | .timeBaseStep => Sys2Proof.Machine.execTimeBaseStep s
  | .draftCountdownElapsed p => Sys2Proof.Machine.execDraftCountdownElapsed p s
  | .anchorCountdownElapsed p => Sys2Proof.Machine.execAnchorCountdownElapsed p s
  | .draftExpiry p => Sys2Proof.Machine.execDraftExpiry p s
  | .anchorExpiry p => Sys2Proof.Machine.execAnchorExpiry p s
  | .saveEraseComplete verified => Sys2Proof.Machine.execSaveEraseComplete verified s
  | .saveCopy => Sys2Proof.Machine.execSaveCopy s
  | .recordProgramComplete verified => Sys2Proof.Machine.execRecordProgramComplete verified s
  | .headerWriteComplete verified => Sys2Proof.Machine.execHeaderWriteComplete verified s
  | .headerReeraseComplete verified => Sys2Proof.Machine.execHeaderReeraseComplete verified s
  | .saveEnd => Sys2Proof.Machine.execSaveEnd s
  | .nresetFall => Sys2Proof.Machine.execNresetFall s
  | .nresetRise => Sys2Proof.Machine.execNresetRise s
  | .startupLoad => Sys2Proof.Machine.execStartupLoad s
  | .tableOperationCompletion => Sys2Proof.Machine.execTableOperationCompletion s
  | .transactionEnd p => Sys2Proof.Machine.execTransactionEnd p s

end Sys2Proof.Machine
end

