-- ==== Sys2Proof/Safety.lean ====
section
/-! DEFINITION. The terms the statements are made in: rows performed one after another, a command
served whole, the states in which a port may be served, and the laws the part upholds. -/

namespace Sys2Proof.Machine

/-! ### Rows performed in order -/

/-- Rows performed one after another, stopping at the first that has no next state. -/
def runRows : List Instr → State → Host.Outcome State Fault Refusal
  | [], s => .next s
  | c :: cs, s =>
    match exec c s with
    | .next t => runRows cs t
    | .fault r => .fault r
    | .refused r => .refused r

/-- A command of a port, then the arbiter's grant of it, then its completion: the command served whole
(R161). -/
def served (c : Instr) (s : State) : Host.Outcome State Fault Refusal :=
  runRows [c, .tableOperationGrant, .tableOperationCompletion] s

/-- The row of a named command on a port. -/
def rowOf (o : Opcode) (p : Port) (ps : List Byte) : Instr :=
  match o with
  | .attach => .attach p ps
  | .detach => .detach p ps
  | .setLifetimes => .setLifetimes p ps
  | .setWindows => .setWindows p ps
  | .getDeviceStatus => .getDeviceStatus p ps
  | .findTag => .findTag p ps
  | .readEntry => .readEntry p ps
  | .readValue => .readValue p ps
  | .readSlice => .readSlice p ps
  | .readHandle => .readHandle p ps
  | .anchorSet => .anchorSet p ps
  | .anchorDrop => .anchorDrop p ps
  | .readAnchored => .readAnchored p ps
  | .readAnchoredHandle => .readAnchoredHandle p ps
  | .stageSet => .stageSet p ps
  | .stageSetHandle => .stageSetHandle p ps
  | .stageDefine => .stageDefine p ps
  | .stageRebound => .stageRebound p ps
  | .stageRetire => .stageRetire p ps
  | .draftView => .draftView p ps
  | .draftRemove => .draftRemove p ps
  | .draftDiscard => .draftDiscard p ps
  | .release => .release p ps
  | .subscribe => .subscribe p ps
  | .subscribeSlice => .subscribeSlice p ps
  | .unsubscribe => .unsubscribe p ps
  | .unsubscribeAll => .unsubscribeAll p ps
  | .nextChanged => .nextChanged p ps
  | .setNoticeEnables => .setNoticeEnables p ps
  | .gateOn => .gateOn p ps
  | .gateOff => .gateOff p ps
  | .takeNotices => .takeNotices p ps
  | .noticeRearm => .noticeRearm p ps
  | .noticeDone => .noticeDone p ps
  | .noticeClear => .noticeClear p ps
  | .saveStart => .saveStart p ps
  | .saveAbort => .saveAbort p ps
  | .saveStatus => .saveStatus p ps
  | .tableWipe => .tableWipe p ps
  | .tableReload => .tableReload p ps

/-! ### When a command is taken, and what it leaves in its port -/

/-- A command transaction may end on the link: nCS is high, or low with no opcode sorted yet (R151,
R152). -/
def linkOpen : Link → Bool
  | .idle => true
  | .selected _ => true
  | .answering => false
  | .ignored => false

/-- nRESET is high, the port's link is open and its command unit IDLE: the port's next command
transaction is taken (R151, R156). -/
def takes (p : Port) (s : State) : Bool :=
  s.nreset && linkOpen (s.port p).link && (s.port p).unit.isNone

/-- The status byte that the transaction shifts out: captured at the fall of nCS, which is now where
nCS is still high (R153). -/
def sentByte (p : Port) (s : State) : Byte :=
  match (s.port p).link with
  | .selected c => c.statusByte
  | _ => statusByte s p

/-- The port takes commands, is ATTACHED, and no start-up load is in progress: tests 1 and 4 of R159
pass. -/
def takesAttached (p : Port) (s : State) : Bool :=
  takes p s && !s.save.startup && s.attached p

/-- No operation is in progress and no requester holds a request (R21). -/
def arbiterQuiet (s : State) : Bool :=
  s.arbiter.op.isNone && requesterRing.all fun r => !holdsRequest s r

/-- A port that takes commands while no start-up load is in progress and the arbiter is quiet: its next
table command is granted at once. -/
def quietLink (p : Port) (s : State) : Bool := takes p s && !s.save.startup && arbiterQuiet s

/-- An attached port whose next table command is granted at once. -/
def quiet (p : Port) (s : State) : Bool := takesAttached p s && arbiterQuiet s

/-- The state once a command of `n` parameter bytes has been answered on port p: `s` in everything but
the port's link, command unit, result record, sequence number, shifted bytes and SDO hold (R156, R162,
R164, R198). -/
def answeredState (p : Port) (opcode : Byte) (n : Nat) (a : Answer) (sent : Byte) (s : State) : State :=
  s.setPort p { s.port p with
    link := .idle
    unit := none
    result := some { opcode := opcode, seq := (s.port p).seq + 1, answer := a }
    resultValid := true
    seq := (s.port p).seq + 1
    sdo := driven (s.port p) (sent :: List.replicate n 0)
    sdoHeld := false }

/-- The state once port p has taken a table command: the command in flight and its request, `s` in
everything else but the port's link, result mark, sequence number, shifted bytes and SDO hold (R156, R161,
R164). -/
def waitingState (p : Port) (opcode : Byte) (ps : List Byte) (c : TableCmd) (resolved : Option Index)
    (sent : Byte) (s : State) : State :=
  s.setPort p { s.port p with
    link := .idle
    unit := some { opcode := opcode, seq := (s.port p).seq + 1, params := ps, cmd := c,
                   resolved := resolved }
    request := true
    resultValid := false
    seq := (s.port p).seq + 1
    sdo := driven (s.port p) (sent :: List.replicate ps.length 0)
    sdoHeld := false }

/-- The state once a table command has been served whole on port p: the search start has passed the
port (R21). -/
def servedState (p : Port) (opcode : Byte) (n : Nat) (a : Answer) (sent : Byte) (s : State) : State :=
  (answeredState p opcode n a sent s).withArbiter
    { searchStart := nextRequester (.pu p), op := none }

/-! ### The laws -/

/-- R138: while the gate is ARMED no flag is both set and enabled, and while it is RAISED one is. -/
def gateLaw (s : State) : Prop :=
  ∀ p, ((s.notice p).gate = .armed → enabledPending (s.notice p) = false) ∧
    ((s.notice p).gate = .raised → enabledPending (s.notice p) = true)

/-- R132: a changed set has no duplicates; the model keeps it strictly ascending. -/
def changedLaw (s : State) : Prop := ∀ p, (s.notice p).changed.Pairwise (· < ·)

/-- R163, R189: during the start-up load the table stands as the chip reset left it. -/
def startupLaw (s : State) : Prop := s.save.startup = true → s.table = resetTable

/-- R60, R74, R90, R111: an entry has a claim by p exactly when p's draft holds an item for it; a draft
holds at most 16 items and one for an entry; waiters stand only beside another port's claim; a DEFINE
item names a VACANT entry and any other item a LIVE one. -/
def claimLaw (s : State) : Prop :=
  (∀ p i, (s.entry i).claim = some p ↔ ∃ it ∈ s.draft p, it.index = i) ∧
  (∀ p, (s.draft p).length ≤ 16 ∧ ((s.draft p).map Item.index).Nodup) ∧
  (∀ i, (s.entry i).claim = none → (s.entry i).waiters = noPorts) ∧
  (∀ i p, (s.entry i).claim = some p → PortSet.has (s.entry i).waiters p = false) ∧
  (∀ p, ∀ it ∈ s.draft p,
    if it.isDefine then (s.entry it.index).isVacant = true else (s.entry it.index).isLive = true)

/-- R19 for one record: born_gen ≤ changed_gen ≤ G, and prior_gen below changed_gen. -/
def recGenLaw (g : Gen) (r : Rec) : Prop :=
  r.bornGen ≤ r.changedGen ∧ r.changedGen ≤ g ∧ ∀ q, r.prior = some q → q.gen < r.changedGen

/-- R19 for one entry: a RETIRED entry has retired_gen = changed_gen besides. -/
def entryGenLaw (g : Gen) (c : Content) : Prop :=
  match c with
  | .vacant => True
  | .live r => recGenLaw g r
  | .retired r rg => recGenLaw g r ∧ rg = r.changedGen

/-- R19, R45, R115: stamps in order, no anchor above G, and every RETIRED entry held by an anchor. -/
def generationLaw (s : State) : Prop :=
  (∀ i, entryGenLaw s.table.g (s.entry i).content) ∧
  (∀ a ∈ heldAnchors s.table, a ≤ s.table.g) ∧
  (∀ i r rg, (s.entry i).content = .retired r rg → isHeld (heldAnchors s.table) rg = true)

/-- R177: the save anchor is held only for a save in flight, and is gone once its end, or a wipe that
ends it, has been granted. -/
def saveAnchorLaw (s : State) : Prop :=
  (s.table.saveAnchor.isSome = true →
    s.save.record.state ≠ .idle ∨ ∃ p g, s.arbiter.op.map TableOperation.finish = some (.saveStart p g)) ∧
  (∀ f, s.arbiter.op.map TableOperation.finish = some f → f = .saveEnd ∨ f = .wipe true →
    s.table.saveAnchor = none)

/-- R3 for one entry: low ≤ value ≤ high in the order of its kind. -/
def entryRangeLaw (e : Entry) : Prop :=
  ∀ r, e.rec? = some r → within r.kind r.low r.high r.value = true

/-- R3 for a retained record. -/
def recordRangeLaw (r : RetainedRecord) : Prop := within r.kind r.low r.high r.value = true

/-- R3: every entry's value within its bounds, and the same of everything that may become an entry by a
load: the records of the banks, and the record a save is about to program. -/
def rangeLaw (s : State) : Prop :=
  (∀ i, entryRangeLaw (s.entry i)) ∧
  (∀ n, ∀ r ∈ (s.store.get n).records, recordRangeLaw r) ∧
  (∀ r, s.save.work = .program r → recordRangeLaw r) ∧
  (∀ r, s.arbiter.op.map TableOperation.finish = some (.copy (.record r)) → recordRangeLaw r)

/-- The save state in which a work on the Store is done (R179, R181, R183). -/
def workPhase : StoreWork → Option SaveState
  | .none => none
  | .erase => some .erasing
  | .program _ => some .copying
  | .header | .reerase => some .closing

/-- The operation in progress ends with this finish. -/
def finishing (s : State) (f : Finish) : Prop := s.arbiter.op.map TableOperation.finish = some f

/-- R177, R179 to R187: what the Save Engine may hold in each phase of a save, and R176: the target of a
save in flight is not the active bank until its outcome is decided. -/
structure SaveLaw (s : State) : Prop where
  idle : s.save.record.state = .idle →
    s.save.record.endPending = none ∧ s.save.work = .none ∧ s.save.request = none
  startup : s.save.startup = true → s.save.record.state = .idle ∧ s.arbiter.op = none
  target : s.save.record.state ≠ .idle → s.save.record.endPending = none →
    ∃ n, s.save.record.target = some n ∧ s.save.active ≠ some n
  work : s.save.work ≠ .none → s.save.record.endPending = none ∧ s.save.request = none ∧
    workPhase s.save.work = some s.save.record.state
  copyRequest : s.save.request = some .copy →
    s.save.record.endPending = none ∧ s.save.record.state = .copying
  endRequest : s.save.request = some .finish → s.save.record.endPending.isSome = true
  copying : ∀ v, finishing s (.copy v) →
    s.save.record.state = .copying ∧ s.save.work = .none ∧ s.save.request ≠ some .copy
  starting : ∀ p g, finishing s (.saveStart p g) → s.save.record.state = .idle
  ending : finishing s .saveEnd →
    s.save.record.endPending.isSome = true ∧ s.save.request = none
  wiping : finishing s (.wipe true) →
    s.save.work = .none ∧
      (s.save.record.state = .erasing ∨ s.save.record.state = .copying)
  seen : ∀ o r, s.arbiter.op = some o → o.saveSeen = some r →
    changesSave o.finish = true ∧ r.state = s.save.record.state ∧
      (o.finish = .saveEnd → r.endPending.isSome = true)
  copied : s.save.record.copied ≤ 256 ∧
    (s.save.record.state = .erasing ∨ s.save.record.state = .copying →
      s.save.record.copied ≤ s.save.record.nextIndex.val)

/-- The active bank is valid (R175). -/
def activeValid (s : State) : Prop :=
  ∀ n, s.save.active = some n → bankValid (s.store.get n) = true

/-- R7: no two LIVE entries carry the same tag. -/
def tagLaw (t : Entries) : Prop :=
  ∀ i j r q, (t.get i).content = .live r → (t.get j).content = .live q → r.tag = q.tag → i = j

/-- R7: the tag index holds one pair for each LIVE entry, and no other. -/
def tagIndexLaw (t : TableController) : Prop :=
  ∀ tag i, lookupTag tag t.tagIndex = some i ↔
    ∃ r, (t.entries.get i).content = .live r ∧ r.tag = tag

/-- R11: every coupling of a LIVE entry has a LIVE partner of the same kind, retained if the entry is,
and its relation holds. -/
def couplingLaw (t : Entries) : Prop :=
  ∀ i r c, (t.get i).content = .live r → r.coupling = some c →
    ∃ w, (t.get c.partner).content = .live w ∧ w.kind = r.kind ∧
      (r.retain = true → w.retain = true) ∧ relationHolds c r.kind r.value w.value = true

/-- R12: the dependents of an entry are the LIVE entries whose coupling names it as partner. -/
def dependentsLaw (t : TableController) : Prop :=
  ∀ e d, d ∈ t.dependents.get e ↔
    ∃ r c, (t.entries.get d).content = .live r ∧ r.coupling = some c ∧ c.partner = e

/-- R7, R8, R11, R12 together: unique tags with their index, and couplings that hold with their dependents. -/
def tableLaw (t : TableController) : Prop :=
  tagLaw t.entries ∧ tagIndexLaw t ∧ couplingLaw t.entries ∧ dependentsLaw t

/-- R7, R11 for the records of an image: different indices and tags, and every coupling names a record of
the same kind whose value meets it. -/
def imageLaw (rs : List RetainedRecord) : Prop :=
  (rs.map RetainedRecord.index).Nodup ∧ (rs.map RetainedRecord.tag).Nodup ∧
  ∀ r ∈ rs, ∀ c, r.coupling = some c →
    ∃ w ∈ rs, w.index = c.partner ∧ w.kind = r.kind ∧ relationHolds c r.kind r.value w.value = true

/-- The image that a load would read, if a bank is valid, obeys those laws (R175, R190). -/
def selectedImageLaw (st : RetainedStore) : Prop :=
  ∀ n, selectBank st = some n → imageLaw ((st.get n).records.take (st.get n).count)

end Sys2Proof.Machine
end

