-- ==== Sys2Proof/Certificates/Slice0/Obligations.lean ====
section
/-! DEFINITION. The statements for the provers. Each says what a command, an event or the whole part
does; a statement about a command covers its transaction, its grant and its completion where the arbiter
is otherwise quiet, and three statements say how transactions, grants and completions combine
otherwise. -/

open Sys2Proof Sys2Proof.Machine

/-! ### Steps, rows and links -/

/-- A step runs the command at the front of the queue on the state with the queue's rest; on an empty
queue the part idles. The model's own convention (log 5, log 8). -/
def Obligations.StepRunsFrontCommand : Prop :=
  (∀ (c : Instr) (rest : List Instr) (s : State), s.pending = c :: rest →
    step s = exec c (s.withPending rest)) ∧
  ∀ s : State, s.pending = [] → step s = .next s

/-- Every row of the table has a next state in every state, and leaves the queue alone. That a row goes on
in every state is the model's choice where the spec is silent: an event that cannot come about leaves the
state as it is (log 2), and the states that the spec's own rules exclude go on as log 24 says. The queue is
the model's own field (log 5). -/
def Obligations.EveryRowAnswersNext : Prop :=
  ∀ (c : Instr) (s : State), ∃ t, exec c s = .next t ∧ t.pending = s.pending

/-- The fall of nCS captures the port's answers; a port read shifts out the status byte and then the
captured answer with fill 0x00 beyond its end, and nothing appears on SDO while a chip reset holds it in high
impedance; a rise that takes nothing leaves the link idle, and with nRESET high SDO free. Nothing else of
the part changes. A transaction whose fall of nCS is a row of its own takes its command as the whole
transaction does, when nothing comes between. The folding is the model's convention (log 1), and so are the
record of the bytes on SDO (log 3), that a transaction runs as ever while SDO is held (log 13), and that a
rise with nCS high changes nothing (log 2). -/
def Obligations.LinkRows : Prop :=
  ((∀ (p : Port) (s : State), s.nreset = true → (s.port p).link = .idle →
     exec (.ncsFall p) s =
       .next (s.setPort p { s.port p with link := .selected (capture s p), sdo := [] }) ∧
     ∀ extra, exec (.readStatus p extra) s =
         .next (s.setPort p { s.port p with
           link := .answering
           sdo := driven (s.port p) (statusByte s p :: shiftOut (statusAnswer s p) extra.length) }) ∧
       exec (.readResult p extra) s =
         .next (s.setPort p { s.port p with
           link := .answering
           sdo := driven (s.port p)
             (statusByte s p :: shiftOut (resultAnswer (s.port p)) extra.length) })) ∧
   (∀ (p : Port) (s : State) (c : Captured) (extra : List Byte), (s.port p).link = .selected c →
     exec (.readStatus p extra) s =
         .next (s.setPort p { s.port p with
           link := .answering
           sdo := driven (s.port p) (c.statusByte :: shiftOut c.statusAnswer extra.length) }) ∧
     exec (.readResult p extra) s =
         .next (s.setPort p { s.port p with
           link := .answering
           sdo := driven (s.port p) (c.statusByte :: shiftOut c.resultAnswer extra.length) })) ∧
   (∀ (p : Port) (s : State),
     ((s.port p).link ≠ .idle → exec (.transactionEnd p) s = .next (s.setPort p { s.port p with
       link := .idle, sdoHeld := if s.nreset then false else (s.port p).sdoHeld })) ∧
     ((s.port p).link = .idle → exec (.transactionEnd p) s = .next s)) ∧
   (∀ (u : PortUnit) (bytes : List Byte), driven u bytes = if u.sdoHeld then [] else bytes) ∧
   ∀ (answer : List Byte) (n k : Nat), (shiftOut answer n).length = n ∧
     (k < n → (shiftOut answer n).getD k 0 = answer.getD k 0)) ∧
  (∀ (o : Opcode) (p : Port) (ps : List Byte) (s : State), s.nreset = true →
     (s.port p).link = .idle →
     runRows [.ncsFall p, rowOf o p ps] s = exec (rowOf o p ps) s)

/-- The bits of the status byte. -/
def Obligations.StatusByteBits : Prop :=
  ∀ (p : Port) (s : State),
    (statusByte s p).getLsbD 7 = (s.save.device == .loading) ∧
    (statusByte s p).getLsbD 6 = s.attached p ∧
    (statusByte s p).getLsbD 5 = (s.port p).unit.isSome ∧
    (statusByte s p).getLsbD 4 = (s.port p).resultValid ∧
    (statusByte s p).getLsbD 3 = nattnLow (s.notice p) ∧
    (statusByte s p).getLsbD 2 = ((s.notice p).flags != 0) ∧
    (statusByte s p).getLsbD 1 = true ∧ (statusByte s p).getLsbD 0 = false

/-- A command or unknown-opcode transaction that ends while the command unit is EXECUTING changes nothing
but the link, the bytes shifted out and a hold on SDO, which its end lifts. -/
def Obligations.DiscardWhileExecuting : Prop :=
  ∀ (p : Port) (s : State) (ps : List Byte), s.nreset = true → linkOpen (s.port p).link = true →
    (s.port p).unit.isSome = true →
    let t := s.setPort p { s.port p with
      link := .idle
      sdo := driven (s.port p) (sentByte p s :: List.replicate ps.length 0)
      sdoHeld := false }
    (∀ o, exec (rowOf o p ps) s = .next t) ∧
    ∀ b, isPortRead b = false →
      exec (.commandDiscard p b ps) s = .next t ∧ exec (.unknownOpcode p b ps) s = .next t

/-! ### Taking a command -/

/-- The tests of a taken command, in their order, each with its status and payload; a refused command
changes only its port's link, record, result mark, sequence number, shifted bytes and hold on SDO. -/
def Obligations.RefusalOrder : Prop :=
  ∀ (p : Port) (s : State), takes p s = true →
    let refused (o : Opcode) (ps : List Byte) (a : Answer) : Prop :=
      exec (rowOf o p ps) s =
        .next (answeredState p (opcodeByte o) ps.length a (sentByte p s) s)
    (s.save.startup = true →
      (∀ o ps, refused o ps (bare .notReady)) ∧
      ∀ b ps, isPortRead b = false → exec (.unknownOpcode p b ps) s =
        .next (answeredState p b ps.length (bare .notReady) (sentByte p s) s)) ∧
    (s.save.startup = false →
      (∀ b ps, isPortRead b = false → opcodeOf b = none → exec (.unknownOpcode p b ps) s =
        .next (answeredState p b ps.length (bare .badOpcode) (sentByte p s) s)) ∧
      (∀ o ps, ps.length + 1 ≠ expectedCount o →
        refused o ps { status := .length, payload :=
          [count8 (expectedCount o), count8 (min (ps.length + 1) 255)] }) ∧
      (∀ o ps, ps.length + 1 = expectedCount o → s.attached p = false → o ≠ .attach →
        o ≠ .getDeviceStatus → refused o ps (bare .notAttached)) ∧
      (s.attached p = true →
        (p ≠ .P0 → refused .tableWipe [] (bare .notSupervisor) ∧
          refused .tableReload [] (bare .notSupervisor)) ∧
        (∀ a b : Byte, ¬ (a.toNat < 32 ∧ b.toNat < 32) → refused .setWindows [a, b]
          { status := .badParam,
            payload := [sliceByte (s.port p).win0, sliceByte (s.port p).win1] }) ∧
        refused .findTag [0, 0] (bare .badParam) ∧
        (∀ a : Byte, 32 ≤ a.toNat → refused .readSlice [a] (bare .badParam) ∧
          refused .subscribeSlice [a] (bare .badParam)) ∧
        (∀ a : Byte, 16 ≤ a.toNat → refused .readHandle [a] (bare .badParam) ∧
          refused .readAnchoredHandle [a] (bare .badParam) ∧
          ∀ b c : Byte, refused .stageSetHandle [a, b, c] (bare .badParam)) ∧
        (∀ a : Byte, a = 0 ∨ 16 < a.toNat → refused .draftView [a] (bare .badParam)) ∧
        ∀ a : Byte, a.getLsbD 7 = true → refused .setNoticeEnables [a] (bare .badParam) ∧
          refused .noticeDone [a] (bare .badParam) ∧ refused .noticeClear [a] (bare .badParam)))

/-- A command that needs a table operation is taken: sequence number advanced, result marked not valid,
the command in flight with its parameters read from their offsets, the request raised. -/
def Obligations.TableCommandsAreTaken : Prop :=
  ∀ (p : Port) (s : State), takes p s = true → s.save.startup = false →
    let taken (c : Instr) (opcode : Byte) (ps : List Byte) (w : TableCmd) (res : Option Index) : Prop :=
      exec c s = .next (waitingState p opcode ps w res (sentByte p s) s)
    taken (.getDeviceStatus p []) 0x14 [] .deviceStatus none ∧
    (s.attached p = true →
      taken (.attach p []) 0x10 [] (.sessionEnd true) none ∧
      taken (.detach p []) 0x11 [] (.sessionEnd false) none ∧
      (∀ a b : Byte, (a ++ b : Word) ≠ 0 →
        taken (.findTag p [a, b]) 0x20 [a, b] (.findTag (a ++ b)) none) ∧
      (∀ a : Byte,
        taken (.readEntry p [a]) 0x21 [a] (.readEntry a.toFin) none ∧
        taken (.readValue p [a]) 0x22 [a] (.readValue a.toFin) none ∧
        taken (.readAnchored p [a]) 0x2A [a] (.readAnchored a.toFin) none ∧
        taken (.stageRetire p [a]) 0x34 [a] (.stageRetire a.toFin) none ∧
        taken (.draftRemove p [a]) 0x39 [a] (.draftRemove a.toFin) none ∧
        taken (.subscribe p [a]) 0x40 [a] (.subscribe a.toFin) none ∧
        taken (.unsubscribe p [a]) 0x42 [a] (.unsubscribe a.toFin) none) ∧
      (∀ (a : Byte) (h : a.toNat < 32),
        taken (.readSlice p [a]) 0x23 [a] (.readSlice ⟨a.toNat, h⟩) none ∧
        taken (.subscribeSlice p [a]) 0x41 [a] (.subscribeSlice ⟨a.toNat, h⟩) none) ∧
      (∀ (a : Byte) (h : a.toNat < 16),
        let i := resolveHandle (s.port p).win0 (s.port p).win1 ⟨a.toNat, h⟩
        taken (.readHandle p [a]) 0x24 [a] (.readValue i) (some i) ∧
        taken (.readAnchoredHandle p [a]) 0x2B [a] (.readAnchored i) (some i) ∧
        ∀ b c : Byte, taken (.stageSetHandle p [a, b, c]) 0x31 [a, b, c] (.stageSet i (b ++ c))
          (some i)) ∧
      (∀ a b c : Byte, taken (.stageSet p [a, b, c]) 0x30 [a, b, c] (.stageSet a.toFin (b ++ c))
        none) ∧
      (∀ ps : List Byte, ps.length = 19 →
        taken (.stageDefine p ps) 0x32 ps (.stageDefine ps) none) ∧
      (∀ a b c d e m v w : Byte, taken (.stageRebound p [a, b, c, d, e, m, v, w]) 0x33
        [a, b, c, d, e, m, v, w] (.stageRebound a.toFin (b ++ c) (d ++ e) m (v ++ w)) none) ∧
      (∀ a : Byte, a ≠ 0 → a.toNat ≤ 16 → taken (.draftView p [a]) 0x38 [a] (.draftView a) none) ∧
      taken (.anchorSet p []) 0x28 [] .anchorSet none ∧
      taken (.anchorDrop p []) 0x29 [] .anchorDrop none ∧
      taken (.draftDiscard p []) 0x3A [] .draftDiscard none ∧
      taken (.release p []) 0x3B [] .release none ∧
      taken (.unsubscribeAll p []) 0x43 [] .unsubscribeAll none ∧
      taken (.nextChanged p []) 0x44 [] .nextChanged none ∧
      taken (.saveStart p []) 0x50 [] .saveStart none ∧
      (p = .P0 → taken (.tableWipe p []) 0x60 [] .tableWipe none ∧
        taken (.tableReload p []) 0x61 [] .tableReload none))

/-- The transaction of a command on port p, whatever it holds, changes no table state, no arbiter state
and no other port: only port p's own Port Unit, Notice Unit and lifetime settings, and, for an accepted
abort, the Save Engine. -/
def Obligations.TakeTouchesOnlyOwnPort : Prop :=
  ∀ (o : Opcode) (p : Port) (ps : List Byte) (s : State), ∃ t, exec (rowOf o p ps) s = .next t ∧
    t.table = s.table ∧ t.arbiter = s.arbiter ∧ t.store = s.store ∧ t.nreset = s.nreset ∧
    t.freePick = s.freePick ∧ t.timer.draftCount = s.timer.draftCount ∧
    t.timer.anchorCount = s.timer.anchorCount ∧ t.timer.expiries = s.timer.expiries ∧
    (o ≠ .saveAbort → t.save = s.save) ∧
    ∀ q, q ≠ p → t.port q = s.port q ∧ t.notice q = s.notice q ∧
      t.timer.draftLife.get q = s.timer.draftLife.get q ∧
      t.timer.anchorLife.get q = s.timer.anchorLife.get q

/-! ### Sessions and settings -/

/-- A direct attach: the session, the default windows and lifetimes and a cleared Notice Unit.
`set_windows` in range and `set_lifetimes`: the new values are in force and answered. -/
def Obligations.AttachAndSettings : Prop :=
  (∀ (p : Port) (s : State), takes p s = true → s.save.startup = false → s.attached p = false →
     exec (.attach p []) s =
       .next (answeredState p 0x10 0 (okWith [portByte p, if p = .P0 then 1 else 0, 0]) (sentByte p s)
         (((s.setPort p { s.port p with session := .attached, win0 := 0, win1 := 1 }).withTimer
           { s.timer with
             draftLife := s.timer.draftLife.set p 100
             anchorLife := s.timer.anchorLife.set p 50 }).setNotice p
           { flags := 0, enables := 0, gate := .disarmed, changed := [] }))) ∧
  (∀ (p : Port) (s : State), takesAttached p s = true →
     (∀ (a b : Byte) (ha : a.toNat < 32) (hb : b.toNat < 32), exec (.setWindows p [a, b]) s =
       .next (answeredState p 0x13 2 (okWith [a, b]) (sentByte p s)
         (s.setPort p { s.port p with win0 := ⟨a.toNat, ha⟩, win1 := ⟨b.toNat, hb⟩ }))) ∧
     ∀ d a : Byte, exec (.setLifetimes p [d, a]) s =
       .next (answeredState p 0x12 2 (okWith [d, a]) (sentByte p s)
         (s.withTimer { s.timer with
           draftLife := s.timer.draftLife.set p d
           anchorLife := s.timer.anchorLife.set p a })))

/-- The session end, for `detach` and for `attach` on an attached port: what it frees in the table, whom
it gives FREE, what it leaves in the port, and that nothing else changes. -/
def Obligations.SessionEndServed : Prop :=
  ∀ (p : Port) (s : State) (re : Bool), quiet p s = true →
    ∃ t n, served (if re then .attach p [] else .detach p []) s = .next t ∧
      (∀ i, t.entry i = vacateEntry (heldAnchors t.table)
        (Entry.mapSubscribers (fun ps => PortSet.drop ps p)
          (if (s.draft p).any (fun it => it.index == i) then
            { s.entry i with claim := none, waiters := noPorts }
          else { s.entry i with waiters := PortSet.drop (s.entry i).waiters p }))) ∧
      t.table = { s.table with
        entries := t.table.entries
        drafts := s.table.drafts.set p []
        anchors := s.table.anchors.set p none } ∧
      t.timer = { s.timer with
        draftLife := s.timer.draftLife.set p 100
        anchorLife := s.timer.anchorLife.set p 50
        draftCount := s.timer.draftCount.set p .stopped
        anchorCount := s.timer.anchorCount.set p .stopped } ∧
      t.notice p = { flags := 0, enables := 0, gate := .disarmed, changed := [] } ∧
      (∀ q, q ≠ p → t.notice q =
        if s.attached q && (s.draft p).any (fun it => PortSet.has (s.entry it.index).waiters q) then
          raiseTest { s.notice q with flags := (s.notice q).flags ||| flagFREE }
        else s.notice q) ∧
      t.ports = s.ports.set p { s.port p with
        link := .idle
        session := if re then .attached else .detached
        win0 := 0
        win1 := 1
        unit := none
        result := some
          { opcode := if re then 0x10 else 0x11, seq := (s.port p).seq + 1,
            answer := okWith ((if re then [portByte p, if p = .P0 then 1 else 0, 1] else []) ++
              [count8 (s.draft p).length] ++ optGen (s.anchor p) ++
              count16 (countEntries (Entry.hasSubscriber p) s.table.entries) ++ count16 n) }
        resultValid := true
        seq := (s.port p).seq + 1
        sdo := driven (s.port p) [sentByte p s]
        sdoHeld := false } ∧
      n + countEntries Entry.isVacant s.table.entries =
        countEntries Entry.isVacant t.table.entries ∧
      t.arbiter = { searchStart := nextRequester (.pu p), op := none } ∧
      t.save = s.save ∧ t.store = s.store ∧ t.nreset = s.nreset ∧ t.freePick = s.freePick

/-! ### Notices -/

/-- `gate_on` and `gate_off` by gate state, with nATTN; flags, enables and changed set stay. -/
def Obligations.GateOnOff : Prop :=
  ∀ (p : Port) (s : State), takesAttached p s = true →
    ∃ on off, exec (.gateOn p []) s =
        .next (answeredState p 0x49 0 (okWith (noticePayload on)) (sentByte p s) (s.setNotice p on)) ∧
      exec (.gateOff p []) s =
        .next (answeredState p 0x4A 0 (okWith (noticePayload off)) (sentByte p s)
          (s.setNotice p off)) ∧
      ((s.notice p).gate = .disarmed → on = { s.notice p with
        gate := if enabledPending (s.notice p) then .raised else .armed }) ∧
      ((s.notice p).gate ≠ .disarmed → on = s.notice p) ∧
      off = { s.notice p with gate := .disarmed } ∧ nattnLow off = false ∧
      ((s.notice p).gate = .disarmed → enabledPending (s.notice p) = true → nattnLow on = true)

/-- `take_notices` answers the flags and enables as they stand, and moves a RAISED gate to SERVICING.
`notice_rearm`: a SERVICING gate goes to ARMED with the raise test; any other gate stays. -/
def Obligations.TakeAndRearm : Prop :=
  (∀ (p : Port) (s : State), takesAttached p s = true →
     ∃ n, exec (.takeNotices p []) s =
         .next (answeredState p 0x4B 0 (okWith ([flagsByte (s.notice p).flags,
           flagsByte (s.notice p).enables, gateByte n.gate] ++ count16 (s.notice p).changed.length))
           (sentByte p s) (s.setNotice p n)) ∧
       n = { s.notice p with
         gate := if (s.notice p).gate = .raised then .servicing else (s.notice p).gate } ∧
       nattnLow n = false) ∧
  (∀ (p : Port) (s : State), takesAttached p s = true →
     ∃ n, exec (.noticeRearm p []) s =
         .next (answeredState p 0x4C 0 (okWith (noticePayload n)) (sentByte p s)
           (s.setNotice p n)) ∧
       ((s.notice p).gate = .servicing → n = { s.notice p with
         gate := if enabledPending (s.notice p) then .raised else .armed }) ∧
       ((s.notice p).gate ≠ .servicing → n = s.notice p))

/-- `notice_done` and `notice_clear`: the named flags are cleared, and the gate acts by its state; a mask
naming anything else is refused and changes nothing. -/
def Obligations.NoticeDoneAndClear : Prop :=
  ∀ (p : Port) (s : State) (m : Byte), takesAttached p s = true →
    (m.getLsbD 7 = true →
      exec (.noticeDone p [m]) s =
        .next (answeredState p 0x4D 1 (bare .badParam) (sentByte p s) s) ∧
      exec (.noticeClear p [m]) s =
        .next (answeredState p 0x4E 1 (bare .badParam) (sentByte p s) s)) ∧
    (m.getLsbD 7 = false →
      let rest : NoticeUnit :=
        { s.notice p with flags := (s.notice p).flags &&& ~~~(m.setWidth 7) }
      ∃ d c, exec (.noticeDone p [m]) s =
          .next (answeredState p 0x4D 1 (okWith (noticePayload d)) (sentByte p s)
            (s.setNotice p d)) ∧
        exec (.noticeClear p [m]) s =
          .next (answeredState p 0x4E 1 (okWith (noticePayload c)) (sentByte p s)
            (s.setNotice p c)) ∧
        d = { rest with gate :=
          match (s.notice p).gate with
          | .servicing => if enabledPending rest then .raised else .armed
          | .raised => if enabledPending rest then .raised else .armed
          | .armed => .armed
          | .disarmed => .disarmed } ∧
        c = { rest with gate :=
          match (s.notice p).gate with
          | .raised => if enabledPending rest then .raised else .armed
          | .servicing => .servicing
          | .armed => .armed
          | .disarmed => .disarmed })

/-- `set_notice_enables` replaces the enables, and the gate acts by its state; a mask naming anything
else is refused and changes nothing. -/
def Obligations.EnablesReplaced : Prop :=
  ∀ (p : Port) (s : State) (m : Byte), takesAttached p s = true →
    (m.getLsbD 7 = true → exec (.setNoticeEnables p [m]) s =
      .next (answeredState p 0x48 1 (bare .badParam) (sentByte p s) s)) ∧
    (m.getLsbD 7 = false →
      let fresh : NoticeUnit := { s.notice p with enables := m.setWidth 7 }
      ∃ n, exec (.setNoticeEnables p [m]) s =
          .next (answeredState p 0x48 1 (okWith (noticePayload n)) (sentByte p s)
            (s.setNotice p n)) ∧
        n = { fresh with gate :=
          match (s.notice p).gate with
          | .armed => if enabledPending fresh then .raised else .armed
          | .raised => if enabledPending fresh then .raised else .armed
          | .servicing => .servicing
          | .disarmed => .disarmed })

/-- A delivery to a Notice Unit: the changed set emptied if it says so, then its indices added without
duplicates in ascending order, its flags set, and the raise test made in ARMED alone. -/
def Obligations.DeliveryApplied : Prop :=
  ∀ (d : Delivery) (n : NoticeUnit),
    (applyDelivery d n).flags = n.flags ||| d.flags ∧
    (applyDelivery d n).enables = n.enables ∧
    (∀ i, i ∈ (applyDelivery d n).changed ↔
      i ∈ d.indices ∨ (d.empties = false ∧ i ∈ n.changed)) ∧
    (n.changed.Pairwise (· < ·) → (applyDelivery d n).changed.Pairwise (· < ·)) ∧
    (n.gate ≠ .armed → (applyDelivery d n).gate = n.gate) ∧
    (n.gate = .armed → d ≠ noDelivery → (applyDelivery d n).gate =
      if (n.flags ||| d.flags) &&& n.enables = 0 then .armed else .raised)

/-! ### Reads -/

/-- `get_device_status`, in either session state: the fields as they stand, with the three counts, which
sum to 256. -/
def Obligations.DeviceStatusServed : Prop :=
  (∀ (p : Port) (s : State), quietLink p s = true →
    served (.getDeviceStatus p []) s =
      .next (servedState p 0x14 0 (okWith ([deviceByte s.save.device] ++ be32 s.table.g ++
        count16 (countEntries Entry.isLive s.table.entries) ++
        count16 (countEntries Entry.isRetired s.table.entries) ++
        count16 (countEntries Entry.isVacant s.table.entries) ++
        [saveStateByte s.save.record.state, outcomeByte s.save.record.lastOutcome,
          bankByte s.save.active] ++
        be32 (match s.save.active with | some n => (s.store.get n).sequence | none => 0) ++
        [if s.save.active.isSome then 1 else 0])) (sentByte p s) s)) ∧
  ∀ t : Entries, countEntries Entry.isLive t + countEntries Entry.isRetired t +
    countEntries Entry.isVacant t = 256

/-- `find_tag` answers the index the tag index holds, or NOT_FOUND; nothing else changes. `read_value`
by the entry's state, and `read_handle` with the resolved index before its payload; nothing else
changes. `read_entry` answers the record, and `read_slice` G and the eight entries of the slice in index
order; nothing else changes. -/
def Obligations.CurrentReadsServed : Prop :=
  (∀ (p : Port) (s : State) (a b : Byte), quiet p s = true → (a ++ b : Word) ≠ 0 →
     (∀ i, lookupTag (a ++ b) s.table.tagIndex = some i →
       served (.findTag p [a, b]) s =
         .next (servedState p 0x20 2 (okWith [indexByte i]) (sentByte p s) s)) ∧
     (lookupTag (a ++ b) s.table.tagIndex = none →
       served (.findTag p [a, b]) s =
         .next (servedState p 0x20 2 (bare .notFound) (sentByte p s) s))) ∧
  (∀ (p : Port) (s : State), quiet p s = true →
     let answer (i : Index) : Answer :=
       match (s.entry i).content with
       | .live r => okWith (be16 r.value ++ [kindByte r.kind] ++ be32 r.changedGen)
       | .retired r _ =>
         { status := .retired, payload := be16 r.value ++ [kindByte r.kind] ++ be32 r.changedGen }
       | .vacant => bare .vacant
     (∀ a : Byte, served (.readValue p [a]) s =
       .next (servedState p 0x22 1 (answer a.toFin) (sentByte p s) s)) ∧
     ∀ (a : Byte) (h : a.toNat < 16),
       let i := resolveHandle (s.port p).win0 (s.port p).win1 ⟨a.toNat, h⟩
       served (.readHandle p [a]) s =
         .next (servedState p 0x24 1
           { status := (answer i).status, payload := indexByte i :: (answer i).payload }
           (sentByte p s) s)) ∧
  (∀ (p : Port) (s : State) (a : Byte), quiet p s = true →
     served (.readEntry p [a]) s =
       .next (servedState p 0x21 1 (okWith (entryPayload (s.entry a.toFin))) (sentByte p s) s) ∧
     ∀ h : a.toNat < 32, served (.readSlice p [a]) s =
       .next (servedState p 0x23 1 (okWith (be32 s.table.g ++
         (List.finRange 8).flatMap fun k =>
           sliceEntryBytes (s.entry (entryOfSlice ⟨a.toNat, h⟩ k)))) (sentByte p s) s))

/-- A handle names entry 8 × WIN0 + h, or 8 × WIN1 + (h − 8); two handles name one entry through equal
windows, and the sixteen handles name sixteen entries through different windows. -/
def Obligations.HandleMap : Prop :=
  ∀ (w0 w1 : Slice),
    (∀ h : Handle, (resolveHandle w0 w1 h).val =
      if h.val < 8 then 8 * w0.val + h.val else 8 * w1.val + (h.val - 8)) ∧
    (w0 = w1 → ∀ h k : Handle, k.val = h.val + 8 → resolveHandle w0 w1 h = resolveHandle w0 w1 k) ∧
    (w0 ≠ w1 → ∀ h k : Handle, resolveHandle w0 w1 h = resolveHandle w0 w1 k → h = k)

/-! ### Anchors and the versioned read -/

/-- `anchor_set` and `anchor_drop`: the anchor, its countdown, the vacate test, the answer, and nothing
else. `read_anchored` by the versioned read at the port's anchor, and `read_anchored_handle` with the
resolved index before its payload; nothing else changes. -/
def Obligations.AnchorsServed : Prop :=
  (∀ (p : Port) (s : State), quiet p s = true →
     served (.anchorSet p []) s =
       .next (servedState p 0x28 0 (okWith (be32 s.table.g ++ optGen (s.anchor p))) (sentByte p s)
         (vacateTest ((s.setAnchor p (some s.table.g)).withTimer { s.timer with
           anchorCount := s.timer.anchorCount.set p
             (if s.timer.anchorLife.get p = 0 then .stopped
               else .running (s.timer.anchorLife.get p)) }))) ∧
     (∀ a, s.anchor p = some a → served (.anchorDrop p []) s =
       .next (servedState p 0x29 0 (okWith (be32 a)) (sentByte p s)
         (vacateTest ((s.setAnchor p none).withTimer { s.timer with
           anchorCount := s.timer.anchorCount.set p .stopped })))) ∧
     (s.anchor p = none → served (.anchorDrop p []) s =
       .next (servedState p 0x29 0 (bare .noAnchor) (sentByte p s) s))) ∧
  (∀ (p : Port) (s : State), quiet p s = true →
     let answer (i : Index) : Answer :=
       match s.anchor p with
       | none => bare .noAnchor
       | some a =>
         match versionedRead (s.entry i).content a with
         | .found v g => okWith (be32 a ++ be16 v ++
             [match (s.entry i).rec? with | some r => kindByte r.kind | none => 0] ++ be32 g)
         | .absent => { status := .absent, payload := be32 a }
         | .retired rg => { status := .retired, payload := be32 a ++ be32 rg }
         | .stale pg => { status := .stale, payload := be32 a ++ be32 pg }
     (∀ a : Byte, served (.readAnchored p [a]) s =
       .next (servedState p 0x2A 1 (answer a.toFin) (sentByte p s) s)) ∧
     ∀ (a : Byte) (h : a.toNat < 16),
       let i := resolveHandle (s.port p).win0 (s.port p).win1 ⟨a.toNat, h⟩
       served (.readAnchoredHandle p [a]) s =
         .next (servedState p 0x2B 1
           { status := (answer i).status, payload := indexByte i :: (answer i).payload }
           (sentByte p s) s))

/-- The five steps of the versioned read, the first that applies, for every entry that has a prior or
was stamped at its birth. A RETIRED entry at every anchor: ABSENT below its birth, STALE up to its last
change, its last value up to its retirement, RETIRED from there. -/
def Obligations.VersionedRead : Prop :=
  (∀ a : Gen, versionedRead .vacant a = .absent ∧
     ∀ r : Rec, (r.prior = none → r.changedGen = r.bornGen) →
       (∀ c : Content, (c = .live r ∨ ∃ rg, c = .retired r rg) → a < r.bornGen →
         versionedRead c a = .absent) ∧
       (∀ rg, r.bornGen ≤ a → rg ≤ a → versionedRead (.retired r rg) a = .retired rg) ∧
       ∀ c : Content, (c = .live r ∨ ∃ rg, c = .retired r rg ∧ a < rg) → r.bornGen ≤ a →
         (r.changedGen ≤ a → versionedRead c a = .found r.value r.changedGen) ∧
         ∀ q, r.prior = some q → a < r.changedGen →
           (q.gen ≤ a → versionedRead c a = .found q.value q.gen) ∧
           (a < q.gen → versionedRead c a = .stale q.gen)) ∧
  (∀ (r : Rec) (q : Prior) (a : Gen), r.prior = some q → r.bornGen ≤ q.gen → q.gen < r.changedGen →
     versionedRead (.retired r r.changedGen) a =
       if a < r.bornGen then .absent
       else if a < q.gen then .stale q.gen
       else if a < r.changedGen then .found q.value q.gen
       else .retired r.changedGen)

/-- The vacate test: every RETIRED entry that no held anchor lies below becomes VACANT with every field
cleared, and nothing else of the part changes. With m the lowest held anchor, those are the entries
retired at or below m; with none held, all. -/
def Obligations.VacateTestApplied : Prop :=
  ∀ s : State,
    (∀ i, (∀ r rg, (s.entry i).content = .retired r rg →
        (∀ a ∈ heldAnchors s.table, rg ≤ a) → (vacateTest s).entry i =
          { content := .vacant, claim := none, waiters := noPorts }) ∧
      ((∀ r rg, (s.entry i).content = .retired r rg → ∃ a ∈ heldAnchors s.table, a < rg) →
        (vacateTest s).entry i = s.entry i)) ∧
    vacateTest s = { s with table := { s.table with entries := (vacateTest s).table.entries } } ∧
    vacateCount s + countEntries Entry.isVacant s.table.entries =
      countEntries Entry.isVacant (vacateTest s).table.entries

/-! ### Staging -/

/-- The merge table: what each stage makes of the item the draft holds for the entry. A stage onto an
item the draft already holds changes that item in its place and restarts the draft countdown, with no
test of draft space; onto a RETIRE, a SET or REBOUND is refused ITEM_CONFLICT and changes nothing. The
entry is LIVE with the port's right, or VACANT under the port's own DEFINE. -/
def Obligations.StageMerges : Prop :=
  (∀ (v w lo hi lo' hi' : Word) (d : Definition) (x y : Option Word),
     mergeSet v (.set w) = some (.set v) ∧
     mergeSet v (.define d) = some (.define { d with value := v }) ∧
     mergeSet v (.rebound lo hi x) = some (.rebound lo hi (some v)) ∧
     mergeSet v .retire = none ∧
     mergeRebound lo hi y (.set w) =
       some (.rebound lo hi (some (match y with | some u => u | none => w))) ∧
     mergeRebound lo hi y (.define d) = some (.define { d with
       low := lo, high := hi, value := match y with | some u => u | none => d.value }) ∧
     mergeRebound lo hi y (.rebound lo' hi' x) =
       some (.rebound lo hi (match y with | some u => some u | none => x)) ∧
     mergeRebound lo hi y .retire = none) ∧
  (∀ (p : Port) (s : State) (a b c : Byte) (it : Item), quiet p s = true →
     (s.entry a.toFin).claim = some p → itemFor (s.draft p) a.toFin = some it →
     let life : Countdown :=
       if s.timer.draftLife.get p = 0 then .stopped else .running (s.timer.draftLife.get p)
     let after (ch : Change) : State :=
       (s.setDraft p ((s.draft p).map fun x =>
         if x.index = a.toFin then { x with change := ch } else x)).withTimer
         { s.timer with draftCount := s.timer.draftCount.set p life }
     let k := count8 (positionOf (s.draft p) a.toFin)
     let n := count8 (s.draft p).length
     ((∃ r, (s.entry a.toFin).content = .live r ∧ PortSet.has r.writeSet p = true) ∨
         ((s.entry a.toFin).content = .vacant ∧ it.isDefine = true) →
       (∀ ch, mergeSet (b ++ c) it.change = some ch → served (.stageSet p [a, b, c]) s =
         .next (servedState p 0x30 3 (okWith [k, changeByte ch, n]) (sentByte p s) (after ch))) ∧
       (it.change = .retire → served (.stageSet p [a, b, c]) s =
         .next (servedState p 0x30 3 (bare .itemConflict) (sentByte p s) s))) ∧
     (∀ (kind : Kind) (d e m v w : Byte),
       (∃ r, (s.entry a.toFin).content = .live r ∧ r.owner = p ∧ r.kind = kind) ∨
         ((s.entry a.toFin).content = .vacant ∧ ∃ x, it.change = .define x ∧ x.kind = kind) →
       leIn kind (b ++ c) (d ++ e) = true → m.toNat < 2 →
       let y : Option Word := if m = 1 then some (v ++ w) else none
       (∀ ch, mergeRebound (b ++ c) (d ++ e) y it.change = some ch →
         served (.stageRebound p [a, b, c, d, e, m, v, w]) s =
           .next (servedState p 0x33 8 (okWith [k, changeByte ch, n]) (sentByte p s) (after ch))) ∧
       (it.change = .retire → served (.stageRebound p [a, b, c, d, e, m, v, w]) s =
         .next (servedState p 0x33 8 (bare .itemConflict) (sentByte p s) s))) ∧
     (∀ r, (s.entry a.toFin).content = .live r → r.owner = p → it.isDefine = false →
       served (.stageRetire p [a]) s =
         .next (servedState p 0x34 1 (okWith [k, 4, n]) (sentByte p s) (after .retire))))

/-- A SET, REBOUND or RETIRE stage that passes its tests on an entry without an item, and with fewer
than 16 items in the draft, appends the item, claims the entry and restarts the draft countdown.
`stage_set_handle` is `stage_set` at the index its handle resolves to, with that index before the
payload, whatever the stage answers. -/
def Obligations.StageCreatesItem : Prop :=
  (∀ (p : Port) (s : State) (a b c d e : Byte) (r : Rec), quiet p s = true →
     (s.entry a.toFin).content = .live r → (s.entry a.toFin).claim = none ∨
       (s.entry a.toFin).claim = some p →
     itemFor (s.draft p) a.toFin = none → (s.draft p).length < 16 →
     let life : Countdown :=
       if s.timer.draftLife.get p = 0 then .stopped else .running (s.timer.draftLife.get p)
     let after (ch : Change) : State :=
       (s.withTable { s.table with
         drafts := s.table.drafts.set p (s.draft p ++ [{ index := a.toFin, change := ch }])
         entries := s.table.entries.set a.toNat { s.entry a.toFin with claim := some p } a.isLt }).withTimer
         { s.timer with draftCount := s.timer.draftCount.set p life }
     let n := count8 ((s.draft p).length + 1)
     (PortSet.has r.writeSet p = true →
       served (.stageSet p [a, b, c]) s =
         .next (servedState p 0x30 3 (okWith [n, 1, n]) (sentByte p s) (after (.set (b ++ c))))) ∧
     (r.owner = p → leIn r.kind (b ++ c) (d ++ e) = true →
       (∀ v w : Byte, served (.stageRebound p [a, b, c, d, e, 0, v, w]) s =
         .next (servedState p 0x33 8 (okWith [n, 3, n]) (sentByte p s)
           (after (.rebound (b ++ c) (d ++ e) none)))) ∧
       ∀ v w : Byte, served (.stageRebound p [a, b, c, d, e, 1, v, w]) s =
         .next (servedState p 0x33 8 (okWith [n, 3, n]) (sentByte p s)
           (after (.rebound (b ++ c) (d ++ e) (some (v ++ w)))))) ∧
     (r.owner = p → served (.stageRetire p [a]) s =
       .next (servedState p 0x34 1 (okWith [n, 4, n]) (sentByte p s) (after .retire)))) ∧
  (∀ (p : Port) (s : State) (a b c : Byte) (h : a.toNat < 16), quiet p s = true →
     let i := resolveHandle (s.port p).win0 (s.port p).win1 ⟨a.toNat, h⟩
     ∃ t answer,
       served (.stageSet p [indexByte i, b, c]) s =
         .next (servedState p 0x30 3 answer (sentByte p s) t) ∧
       served (.stageSetHandle p [a, b, c]) s =
         .next (servedState p 0x31 3
           { status := answer.status, payload := indexByte i :: answer.payload } (sentByte p s) t))

/-- A RETIRE stage onto the port's own DEFINE withdraws it: the item leaves the draft, the claim ends with
FREE to the waiters, and the countdown restarts, or stops when the draft is left empty. -/
def Obligations.DefineWithdrawn : Prop :=
  ∀ (p : Port) (s : State) (a : Byte) (it : Item), quiet p s = true →
    (s.entry a.toFin).content = .vacant → (s.entry a.toFin).claim = some p →
    itemFor (s.draft p) a.toFin = some it → it.isDefine = true →
    let life : Countdown :=
      if s.timer.draftLife.get p = 0 then .stopped else .running (s.timer.draftLife.get p)
    let d := (s.draft p).filter fun x => x.index != a.toFin
    ∃ t, served (.stageRetire p [a]) s =
        .next (servedState p 0x34 1
          (okWith [count8 (positionOf (s.draft p) a.toFin), 0, count8 d.length]) (sentByte p s) t) ∧
      t.table = { s.table with
        drafts := s.table.drafts.set p d
        entries := s.table.entries.set a.toNat
          { content := .vacant, claim := none, waiters := noPorts } a.isLt } ∧
      t.timer = { s.timer with
        draftCount := s.timer.draftCount.set p (if d = [] then .stopped else life) } ∧
      (∀ q, t.notice q = if s.attached q && PortSet.has (s.entry a.toFin).waiters q then
        raiseTest { s.notice q with flags := (s.notice q).flags ||| flagFREE } else s.notice q) ∧
      t.ports = s.ports ∧ t.save = s.save ∧ t.store = s.store ∧ t.nreset = s.nreset ∧
      t.freePick = s.freePick

/-- Stages refused by the entry's state, by rights, by parameters or for want of draft space change
nothing in the table, the draft or the countdown, and make no waiter. A stage on an entry that another
port claims is answered CLAIMED with the claimant, the port joins the waiters, and nothing else changes:
every stage form that reaches the claim test. -/
def Obligations.StageRefused : Prop :=
  (∀ (p : Port) (s : State) (a b c : Byte), quiet p s = true →
     let set (st : Status) : Prop := served (.stageSet p [a, b, c]) s =
       .next (servedState p 0x30 3 (bare st) (sentByte p s) s)
     let retire (st : Status) : Prop := served (.stageRetire p [a]) s =
       .next (servedState p 0x34 1 (bare st) (sentByte p s) s)
     let rebound (m : Byte) (d e v w : Byte) (st : Status) : Prop :=
       served (.stageRebound p [a, b, c, d, e, m, v, w]) s =
         .next (servedState p 0x33 8 (bare st) (sentByte p s) s)
     (∀ r rg, (s.entry a.toFin).content = .retired r rg →
       set .retired ∧ retire .retired ∧ ∀ m d e v w, rebound m d e v w .retired) ∧
     ((s.entry a.toFin).content = .vacant → itemFor (s.draft p) a.toFin = none →
       set .vacant ∧ retire .vacant ∧ ∀ m d e v w, rebound m d e v w .vacant) ∧
     ∀ r, (s.entry a.toFin).content = .live r →
       (PortSet.has r.writeSet p = false → set .noRight) ∧
       (r.owner ≠ p → retire .noRight ∧ ∀ m d e v w, rebound m d e v w .noRight) ∧
       (r.owner = p → ∀ m d e v w,
         (1 < m.toNat ∨ leIn r.kind (b ++ c) (d ++ e) = false) → rebound m d e v w .badParam) ∧
       ((s.entry a.toFin).claim = none → itemFor (s.draft p) a.toFin = none →
         16 ≤ (s.draft p).length →
         (PortSet.has r.writeSet p = true → set .draftFull) ∧
         (r.owner = p → retire .draftFull ∧ ∀ m d e v w, m.toNat < 2 →
           leIn r.kind (b ++ c) (d ++ e) = true → rebound m d e v w .draftFull))) ∧
  (∀ (p q : Port) (s : State) (a b c : Byte), quiet p s = true → p ≠ q →
     (s.entry a.toFin).claim = some q →
     let t := s.setEntry a.toFin { s.entry a.toFin with
       waiters := PerPort.set (s.entry a.toFin).waiters p true }
     let claimed : Answer := { status := .claimed, payload := [portByte q] }
     (∀ r, (s.entry a.toFin).content = .live r →
       (PortSet.has r.writeSet p = true → served (.stageSet p [a, b, c]) s =
         .next (servedState p 0x30 3 claimed (sentByte p s) t)) ∧
       (r.owner = p → served (.stageRetire p [a]) s =
         .next (servedState p 0x34 1 claimed (sentByte p s) t)) ∧
       (r.owner = p → ∀ d e m v w : Byte, m.toNat < 2 → leIn r.kind (b ++ c) (d ++ e) = true →
         served (.stageRebound p [a, b, c, d, e, m, v, w]) s =
           .next (servedState p 0x33 8 claimed (sentByte p s) t))) ∧
     ((s.entry a.toFin).content = .vacant →
       ∀ (ps : List Byte) (d : Definition), ps.length = 19 →
         defineParams p ps = some (some a.toFin, d) → served (.stageDefine p ps) s =
           .next (servedState p 0x32 19 claimed (sentByte p s) t)))

/-- `stage_define` at an index, by the state of the entry there. `stage_define(any)` allocates the
lowest VACANT and unclaimed entry, the named partner passed over; a full draft is DRAFT_FULL, and no
such entry TABLE_FULL. -/
def Obligations.DefineStaged : Prop :=
  (∀ (p : Port) (s : State) (ps : List Byte) (i : Index) (d : Definition), quiet p s = true →
     ps.length = 19 → defineParams p ps = some (some i, d) →
     let life : Countdown :=
       if s.timer.draftLife.get p = 0 then .stopped else .running (s.timer.draftLife.get p)
     let answered (a : Answer) (t : State) : Prop :=
       served (.stageDefine p ps) s = .next (servedState p 0x32 19 a (sentByte p s) t)
     (∀ r rg, (s.entry i).content = .retired r rg → answered (bare .retired) s) ∧
     (∀ r, (s.entry i).content = .live r → answered (bare .noRight) s) ∧
     ((s.entry i).content = .vacant → (s.entry i).claim = some p → answered (bare .itemConflict) s) ∧
     ((s.entry i).content = .vacant → (s.entry i).claim = none → 16 ≤ (s.draft p).length →
       answered (bare .draftFull) s) ∧
     ((s.entry i).content = .vacant → (s.entry i).claim = none → (s.draft p).length < 16 →
       answered (okWith [count8 ((s.draft p).length + 1), 2, count8 ((s.draft p).length + 1),
           indexByte i])
         ((s.withTable { s.table with
           drafts := s.table.drafts.set p (s.draft p ++ [{ index := i, change := .define d }])
           entries := s.table.entries.set i.val { s.entry i with claim := some p } i.isLt }).withTimer
           { s.timer with draftCount := s.timer.draftCount.set p life }))) ∧
  (∀ (p : Port) (s : State) (ps : List Byte) (d : Definition), quiet p s = true →
     ps.length = 19 → defineParams p ps = some (none, d) →
     let life : Countdown :=
       if s.timer.draftLife.get p = 0 then .stopped else .running (s.timer.draftLife.get p)
     let free (i : Index) : Prop := (s.entry i).content = .vacant ∧ (s.entry i).claim = none ∧
       ∀ c, d.coupling = some c → c.partner ≠ i
     (16 ≤ (s.draft p).length → served (.stageDefine p ps) s =
       .next (servedState p 0x32 19 (bare .draftFull) (sentByte p s) s)) ∧
     ((s.draft p).length < 16 →
       ((∀ i, ¬ free i) → served (.stageDefine p ps) s =
         .next (servedState p 0x32 19 (bare .tableFull) (sentByte p s) s)) ∧
       ∀ i, free i → (∀ j, j < i → ¬ free j) → served (.stageDefine p ps) s =
         .next (servedState p 0x32 19
           (okWith [count8 ((s.draft p).length + 1), 2, count8 ((s.draft p).length + 1), indexByte i])
           (sentByte p s)
           ((s.withTable { s.table with
             drafts := s.table.drafts.set p (s.draft p ++ [{ index := i, change := .define d }])
             entries := s.table.entries.set i.val { s.entry i with claim := some p } i.isLt }).withTimer
             { s.timer with draftCount := s.timer.draftCount.set p life }))))

/-- `stage_define`'s own parameter test: each bad field is BAD_PARAM and changes nothing; good fields are
read from their offsets, the staging port added to the write set, and the margin kept for WITHIN alone. -/
def Obligations.DefineParameters : Prop :=
  (∀ (p : Port) (s : State) (ps : List Byte), quiet p s = true → ps.length = 19 →
    defineParams p ps = none → served (.stageDefine p ps) s =
      .next (servedState p 0x32 19 (bare .badParam) (sentByte p s) s)) ∧
  ∀ (p : Port) (ps : List Byte),
    (defineParams p ps = none ↔
      1 < (byteAt ps 1).toNat ∨ wordAt ps 3 = 0 ∨ 1 < (byteAt ps 5).toNat ∨
      1 < (byteAt ps 6).toNat ∨ 1 < (byteAt ps 7).toNat ∨
      leIn (if byteAt ps 5 = 0 then .unsigned else .signed) (wordAt ps 8) (wordAt ps 10) = false ∨
      15 < (byteAt ps 14).toNat ∨ 1 < (byteAt ps 15).toNat ∨
      (byteAt ps 15 = 1 ∧ (byteAt ps 17 = 0 ∨ 3 < (byteAt ps 17).toNat ∨
        (byteAt ps 1 = 0 ∧ byteAt ps 16 = byteAt ps 2)))) ∧
    ∀ t d, defineParams p ps = some (t, d) →
      (t = if byteAt ps 1 = 0 then some (byteAt ps 2).toFin else none) ∧
      d.tag = wordAt ps 3 ∧ d.low = wordAt ps 8 ∧ d.high = wordAt ps 10 ∧ d.value = wordAt ps 12 ∧
      (d.kind = .signed ↔ byteAt ps 5 = 1) ∧ (d.policy = .refuse ↔ byteAt ps 6 = 1) ∧
      (d.retain = true ↔ byteAt ps 7 = 1) ∧ PortSet.has d.writeSet p = true ∧
      (∀ q, q ≠ p → PortSet.has d.writeSet q = (byteAt ps 14).getLsbD (portByte q).toNat) ∧
      (d.coupling = none ↔ byteAt ps 15 = 0) ∧
      ∀ c, d.coupling = some c → c.partner = (byteAt ps 16).toFin ∧
        relationByte c.relation = byteAt ps 17 ∧
        c.margin = if byteAt ps 17 = 3 then wordAt ps 18 else 0

/-! ### Inspecting and emptying the draft -/

/-- `draft_view` answers the item at the position with the remaining life, or NO_ITEM with the count,
and changes nothing. `draft_remove`: the item leaves, the claim ends with FREE to the waiters, and the
countdown stops only when the draft is left empty; without such an item nothing changes. -/
def Obligations.DraftViewAndRemove : Prop :=
  (∀ (p : Port) (s : State) (a : Byte), quiet p s = true → a ≠ 0 → a.toNat ≤ 16 →
     (∀ it, (s.draft p)[a.toNat - 1]? = some it → served (.draftView p [a]) s =
       .next (servedState p 0x38 1
         (okWith ([count8 (s.draft p).length, a, indexByte it.index, changeByte it.change] ++
           changeBytes it.change ++
           (match s.timer.draftCount.get p with
             | .stopped => [0, 0]
             | .running r => [1, r]
             | .elapsed => [1, 0]))) (sentByte p s) s)) ∧
     ((s.draft p).length < a.toNat → served (.draftView p [a]) s =
       .next (servedState p 0x38 1
         { status := .noItem, payload := [count8 (s.draft p).length] } (sentByte p s) s))) ∧
  (∀ (p : Port) (s : State) (a : Byte), quiet p s = true →
     (itemFor (s.draft p) a.toFin = none → served (.draftRemove p [a]) s =
       .next (servedState p 0x39 1
         { status := .noItem, payload := [count8 (s.draft p).length] } (sentByte p s) s)) ∧
     ∀ it, itemFor (s.draft p) a.toFin = some it →
       let d := (s.draft p).filter fun x => x.index != a.toFin
       ∃ t, served (.draftRemove p [a]) s =
           .next (servedState p 0x39 1
             (okWith [count8 (positionOf (s.draft p) a.toFin), changeByte it.change,
               count8 d.length]) (sentByte p s) t) ∧
         t.table = { s.table with
           drafts := s.table.drafts.set p d
           entries := s.table.entries.set a.toNat
             { s.entry a.toFin with claim := none, waiters := noPorts } a.isLt } ∧
         t.timer = (if d = [] then
           { s.timer with draftCount := s.timer.draftCount.set p .stopped } else s.timer) ∧
         (∀ q, t.notice q = if s.attached q && PortSet.has (s.entry a.toFin).waiters q then
           raiseTest { s.notice q with flags := (s.notice q).flags ||| flagFREE } else s.notice q) ∧
         t.ports = s.ports ∧ t.save = s.save ∧ t.store = s.store ∧ t.nreset = s.nreset ∧
         t.freePick = s.freePick)

/-- `draft_discard` empties the draft, ends its claims, stops the countdown and answers the count. The
claims of a whole draft end: the entries it names lose claim and waiters, and each port that waits on
one of them receives FREE once. -/
def Obligations.DraftDiscarded : Prop :=
  (∀ (p : Port) (s : State), quiet p s = true →
     served (.draftDiscard p []) s =
       .next (servedState p 0x3A 0 (okWith [count8 (s.draft p).length]) (sentByte p s)
         (((endClaims (s.draft p) s).setDraft p []).withTimer { s.timer with
           draftCount := s.timer.draftCount.set p .stopped })) ∧
     (s.draft p = [] → s.timer.draftCount.get p = .stopped →
       served (.draftDiscard p []) s =
         .next (servedState p 0x3A 0 (okWith [0]) (sentByte p s) s))) ∧
  (∀ (items : List Item) (s : State),
     (∀ i, (endClaims items s).entry i =
       if items.any (fun it => it.index == i) then
         { s.entry i with claim := none, waiters := noPorts } else s.entry i) ∧
     (∀ q, (endClaims items s).notice q =
       if s.attached q && items.any (fun it => PortSet.has (s.entry it.index).waiters q) then
         raiseTest { s.notice q with flags := (s.notice q).flags ||| flagFREE }
       else s.notice q) ∧
     endClaims items s = { s with
       table := { s.table with entries := (endClaims items s).table.entries }
       notices := (endClaims items s).notices })

/-! ### Release -/

/-- The range handling of a value: kept within its bounds; outside them, moved to the nearer bound under
CLAMP and kept under REFUSE. The relations of a coupling, in the numbers of the kind, the distance
computed without wrap. -/
def Obligations.ValueComparisons : Prop :=
  (∀ (k : Kind) (low high v : Word), leIn k low high = true →
     (within k low high v = true → rangeValue .clamp k low high v = v) ∧
     (valueOf k v < valueOf k low → rangeValue .clamp k low high v = low) ∧
     (valueOf k high < valueOf k v → rangeValue .clamp k low high v = high) ∧
     within k low high (rangeValue .clamp k low high v) = true ∧
     rangeValue .refuse k low high v = v ∧
     (isClamped .clamp k low high v = true ↔ within k low high v = false) ∧
     isClamped .refuse k low high v = false) ∧
  (∀ (e : Index) (k : Kind) (v w m : Word),
     (relationHolds ⟨e, .notAbove, m⟩ k v w = true ↔ valueOf k v ≤ valueOf k w) ∧
     (relationHolds ⟨e, .notBelow, m⟩ k v w = true ↔ valueOf k w ≤ valueOf k v) ∧
     (relationHolds ⟨e, .within, m⟩ k v w = true ↔
       valueOf k v - valueOf k w ≤ m.toNat ∧ valueOf k w - valueOf k v ≤ m.toNat) ∧
     relationHolds ⟨e, .within, 65535⟩ k v w = true ∧
     valueOf .unsigned v = v.toNat ∧
     valueOf .signed v = if v.toNat < 32768 then (v.toNat : Int) else (v.toNat : Int) - 65536)

/-- A release refused for an empty draft, at the generation limit or by a failing check answers why and
changes nothing: no entry, no index, no draft, no claim, no countdown, no notice. The item it reports fails
its checks and every item before it passes them; no item is reported exactly when all pass. -/
def Obligations.ReleaseRefused : Prop :=
  (∀ (deps : Vector IndexSet 256) (post : Entries) (items : List Item),
    firstFailure deps post items = none ↔ ∀ it ∈ items, checkItem deps post it = none) ∧
  ∀ (p : Port) (s : State), quiet p s = true →
    (s.draft p = [] → served (.release p []) s =
      .next (servedState p 0x3B 0 (bare .noDraft) (sentByte p s) s)) ∧
    (s.draft p ≠ [] → s.table.g = 4294967295 → served (.release p []) s =
      .next (servedState p 0x3B 0
        { status := .genLimit, payload := [count8 (s.draft p).length] } (sentByte p s) s)) ∧
    ∀ (n : Nat) (it : Item) (f : Failure), s.draft p ≠ [] → s.table.g ≠ 4294967295 →
      firstFailure s.table.dependents
        (postState p (s.table.g + 1) (s.draft p) s.table.entries) (s.draft p) = some (n, it, f) →
      (s.draft p)[n - 1]? = some it ∧ 1 ≤ n ∧
      checkItem s.table.dependents
        (postState p (s.table.g + 1) (s.draft p) s.table.entries) it = some f ∧
      (∀ (m : Nat) (jt : Item), m + 1 < n → (s.draft p)[m]? = some jt →
        checkItem s.table.dependents
          (postState p (s.table.g + 1) (s.draft p) s.table.entries) jt = none) ∧
      served (.release p []) s =
        .next (servedState p 0x3B 0
          { status := f.status
            payload := [count8 n, indexByte it.index] ++
              (match f.offender with | some j => [1, indexByte j] | none => [0, 0]) }
          (sentByte p s) s)

/-- The post-state and its stamps, for a draft with one item for each entry: entries no item names stay;
a SET or REBOUND that changes its LIVE entry shifts value and stamp into prior and takes the new G, and one
that changes nothing leaves every field; a RETIRE shifts prior, keeps value and bounds and takes the new G
twice; a DEFINE makes a LIVE entry owned by the port, born at the new G, with no prior and no
subscribers. -/
def Obligations.PostStateStamps : Prop :=
  ∀ (p : Port) (g : Gen) (items : List Item) (t : Entries), (items.map Item.index).Nodup →
    (∀ i, (∀ it ∈ items, it.index ≠ i) → (postState p g items t).get i = t.get i) ∧
    ∀ it ∈ items,
      ((postState p g items t).get it.index).claim = (t.get it.index).claim ∧
      ((postState p g items t).get it.index).waiters = (t.get it.index).waiters ∧
      (∀ r, (t.get it.index).content = .live r →
        let stamped (low high v : Word) : Rec :=
          if low = r.low ∧ high = r.high ∧ v = r.value then r
          else { r with
            prior := some { value := r.value, gen := r.changedGen }
            value := v, low := low, high := high, changedGen := g }
        (∀ v, it.change = .set v → ((postState p g items t).get it.index).content =
          .live (stamped r.low r.high (rangeValue r.policy r.kind r.low r.high v))) ∧
        (∀ lo hi v, it.change = .rebound lo hi v →
          ((postState p g items t).get it.index).content =
            .live (stamped lo hi (rangeValue r.policy r.kind lo hi
              (match v with | some w => w | none => r.value)))) ∧
        (it.change = .retire → ((postState p g items t).get it.index).content =
          .retired { r with
            prior := some { value := r.value, gen := r.changedGen }, changedGen := g } g)) ∧
      ∀ d, it.change = .define d → (t.get it.index).content = .vacant →
        ((postState p g items t).get it.index).content = .live
          { tag := d.tag, kind := d.kind, policy := d.policy, retain := d.retain, low := d.low,
            high := d.high, value := rangeValue d.policy d.kind d.low d.high d.value,
            changedGen := g, prior := none, bornGen := g, owner := p, writeSet := d.writeSet,
            subscribers := noPorts, coupling := d.coupling }

/-- The checks of one item in the post-state, each with its status and offender, in the order (a) to
(e). An item that passes (a) to (d) is decided by check (e), on its dependents in ascending order: those
not LIVE in the post-state are passed over; the first whose partner is retired, or whose relation fails,
refuses. It is the only check of a RETIRE. -/
def Obligations.ReleaseChecks : Prop :=
  (∀ (deps : Vector IndexSet 256) (post : Entries) (it : Item) (r : Rec),
     (post.get it.index).content = .live r →
     (it.change ≠ .retire → within r.kind r.low r.high r.value = false →
       checkItem deps post it = some ⟨.range, none⟩) ∧
     (it.change ≠ .retire → within r.kind r.low r.high r.value = true →
       (∀ d, it.change = .define d → ∀ j q, j ≠ it.index → (post.get j).content = .live q →
         q.tag = d.tag →
         (∀ k x, k < j → k ≠ it.index → (post.get k).content = .live x → x.tag ≠ d.tag) →
         checkItem deps post it = some ⟨.dupTag, some j⟩) ∧
       ((∀ d, it.change = .define d →
           (∀ j q, j ≠ it.index → (post.get j).content = .live q → q.tag ≠ d.tag) ∧
           ∀ c, d.coupling = some c → ∃ w, (post.get c.partner).content = .live w ∧
             w.kind = d.kind ∧ (d.retain = true → w.retain = true)) →
         (∀ c, r.coupling = some c →
           (∀ w rg, (post.get c.partner).content = .retired w rg →
             checkItem deps post it = some ⟨.coupled, some it.index⟩) ∧
           ∀ w, (post.get c.partner).content = .live w →
             relationHolds c r.kind r.value w.value = false →
             checkItem deps post it = some ⟨.coupling, some it.index⟩) ∧
         ((∀ c, r.coupling = some c → ∃ w, (post.get c.partner).content = .live w ∧
             relationHolds c r.kind r.value w.value = true) →
           checkItem deps post it = checkDependents deps post it))) ∧
     (∀ d c, it.change = .define d → d.coupling = some c →
       within r.kind r.low r.high r.value = true →
       (∀ j q, j ≠ it.index → (post.get j).content = .live q → q.tag ≠ d.tag) →
       ((∀ w, (post.get c.partner).content = .live w → w.kind ≠ d.kind) →
         checkItem deps post it = some ⟨.partner, some c.partner⟩) ∧
       ∀ w, (post.get c.partner).content = .live w → w.kind = d.kind → d.retain = true →
         w.retain = false → checkItem deps post it = some ⟨.retainPartner, some c.partner⟩)) ∧
  (∀ (deps : Vector IndexSet 256) (post : Entries) (it : Item),
     (∀ d r, (post.get d).content = .live r → (∀ w, (post.get it.index).content ≠ .live w) →
       checkDependent post it d = some ⟨.coupled, some d⟩) ∧
     (∀ d, (∀ r, (post.get d).content ≠ .live r) → checkDependent post it d = none) ∧
     (∀ d r w c, (post.get d).content = .live r → (post.get it.index).content = .live w →
       r.coupling = some c → checkDependent post it d =
         if relationHolds c r.kind r.value w.value then none else some ⟨.coupling, some d⟩) ∧
     (it.change = .retire → (∀ w, (post.get it.index).content ≠ .live w) →
       checkItem deps post it = checkDependents deps post it) ∧
     (checkDependents deps post it = none ↔
       ∀ d ∈ deps.get it.index, checkDependent post it d = none) ∧
     ∀ f, checkDependents deps post it = some f → ∃ before d after,
       deps.get it.index = before ++ d :: after ∧ checkDependent post it d = some f ∧
       ∀ e ∈ before, checkDependent post it e = none)

/-- An accepted release: the post-state becomes the table with the claims of the draft ended, G advances
by one exactly when an entry changed, the derived structures follow, the draft is emptied and its countdown
stopped, the notices are delivered, the retired entries are given the vacate test, and nothing else
changes. -/
def Obligations.ReleaseAccepted : Prop :=
  ∀ (p : Port) (s : State), quiet p s = true → s.draft p ≠ [] → s.table.g ≠ 4294967295 →
    let items := s.draft p
    let post := postState p (s.table.g + 1) items s.table.entries
    firstFailure s.table.dependents post items = none →
    let changed := items.countP (itemChanged s.table.entries post)
    let clamped := items.filter (itemClamped s.table.entries)
    let g := if changed = 0 then s.table.g else s.table.g + 1
    ∃ t, served (.release p []) s =
        .next (servedState p 0x3B 0 (okWith (be32 g ++ [count8 changed, count8 clamped.length] ++
          (match clamped.head? with | some it => [1, indexByte it.index] | none => [0, 0])))
          (sentByte p s) t) ∧
      (∀ i,
        let e : Entry := if items.any (fun it => it.index == i) then
          { post.get i with claim := none, waiters := noPorts } else post.get i
        t.entry i = if items.any Item.isRetire then vacateEntry (heldAnchors s.table) e else e) ∧
      t.table = { s.table with
        entries := t.table.entries
        tagIndex := releaseTags s.table.entries items s.table.tagIndex
        dependents := releaseDependents s.table.entries items s.table.dependents
        g := g
        drafts := s.table.drafts.set p [] } ∧
      t.timer = { s.timer with draftCount := s.timer.draftCount.set p .stopped } ∧
      (∀ q, t.notice q = if s.attached q then
        applyDelivery (releaseDelivery p s.table.entries post items q) (s.notice q)
        else s.notice q) ∧
      t.ports = s.ports ∧ t.save = s.save ∧ t.store = s.store ∧ t.nreset = s.nreset ∧
      t.freePick = s.freePick

/-- What a release delivers: CHG and RET with the indices of the changed entries to their subscribers other
than the releasing port, and FREE to the waiters of its entries. -/
def Obligations.ReleaseNotices : Prop :=
  ∀ (p q : Port) (old post : Entries) (items : List Item),
    let d := releaseDelivery p old post items q
    let told (it : Item) : Prop := it ∈ items ∧ q ≠ p ∧
      contentChanged (old.get it.index).content (post.get it.index).content = true ∧
      (old.get it.index).hasSubscriber q = true
    (d.flags.getLsbD 0 = true ↔ ∃ it, told it ∧ (post.get it.index).isLive = true) ∧
    (d.flags.getLsbD 1 = true ↔ ∃ it, told it ∧ (post.get it.index).isRetired = true) ∧
    (d.flags.getLsbD 2 = true ↔
      ∃ it ∈ items, PortSet.has (old.get it.index).waiters q = true) ∧
    (∀ k, 3 ≤ k → d.flags.getLsbD k = false) ∧
    (∀ i, i ∈ d.indices ↔ ∃ it, told it ∧ it.index = i) ∧ d.empties = false

/-! ### Subscriptions -/

/-- `subscribe` and `unsubscribe` by the entry's state; only the entry's subscribers change.
`subscribe_slice` adds the port to every LIVE entry of the slice and to no other, and answers the two
counts; `unsubscribe_all` removes it from every entry and answers how many held it. -/
def Obligations.SubscriptionsServed : Prop :=
  (∀ (p : Port) (s : State) (a : Byte), quiet p s = true →
     (∀ r, (s.entry a.toFin).content = .live r →
       served (.subscribe p [a]) s =
         .next (servedState p 0x40 1
           (okWith (be16 r.tag ++ be32 r.changedGen ++ [if PortSet.has r.subscribers p then 0 else 1]))
           (sentByte p s)
           (s.setEntry a.toFin { s.entry a.toFin with
             content := .live { r with subscribers := PerPort.set r.subscribers p true } })) ∧
       served (.unsubscribe p [a]) s =
         .next (servedState p 0x42 1 (okWith [if PortSet.has r.subscribers p then 1 else 0])
           (sentByte p s)
           (s.setEntry a.toFin { s.entry a.toFin with
             content := .live { r with subscribers := PerPort.set r.subscribers p false } }))) ∧
     (∀ r rg, (s.entry a.toFin).content = .retired r rg →
       served (.subscribe p [a]) s =
         .next (servedState p 0x40 1 (bare .retired) (sentByte p s) s) ∧
       served (.unsubscribe p [a]) s =
         .next (servedState p 0x42 1 (okWith [if PortSet.has r.subscribers p then 1 else 0])
           (sentByte p s)
           (s.setEntry a.toFin { s.entry a.toFin with
             content := .retired { r with subscribers := PerPort.set r.subscribers p false } rg }))) ∧
     ((s.entry a.toFin).content = .vacant →
       served (.subscribe p [a]) s =
         .next (servedState p 0x40 1 (bare .vacant) (sentByte p s) s) ∧
       served (.unsubscribe p [a]) s =
         .next (servedState p 0x42 1 (bare .vacant) (sentByte p s) s))) ∧
  (∀ (p : Port) (s : State), quiet p s = true →
     (∀ (a : Byte) (h : a.toNat < 32),
       let slice := (List.finRange 8).map (entryOfSlice ⟨a.toNat, h⟩)
       let live := slice.filter fun i => (s.entry i).isLive
       ∃ t, served (.subscribeSlice p [a]) s =
           .next (servedState p 0x41 1 (okWith [count8 live.length,
             count8 (live.countP fun i => !(s.entry i).hasSubscriber p)]) (sentByte p s) t) ∧
         t = { s with table := { s.table with entries := t.table.entries } } ∧
         ∀ i, t.entry i = if i.val / 8 = a.toNat ∧ (s.entry i).isLive = true then
           Entry.mapSubscribers (fun ps => PerPort.set ps p true) (s.entry i) else s.entry i) ∧
     ∃ t, served (.unsubscribeAll p []) s =
         .next (servedState p 0x43 0
           (okWith (count16 (countEntries (Entry.hasSubscriber p) s.table.entries)))
           (sentByte p s) t) ∧
       t = { s with table := { s.table with entries := t.table.entries } } ∧
       ∀ i, t.entry i = Entry.mapSubscribers (fun ps => PerPort.set ps p false) (s.entry i))

/-- `next_changed` removes the lowest member of the changed set and answers its entry; on an empty set it is
EMPTY. Flags, enables and gate stay, and nothing else changes. -/
def Obligations.NextChangedServed : Prop :=
  ∀ (p : Port) (s : State), quiet p s = true →
    ((s.notice p).changed = [] → served (.nextChanged p []) s =
      .next (servedState p 0x44 0 (bare .empty) (sentByte p s) s)) ∧
    ∀ i rest, (s.notice p).changed = i :: rest → (s.notice p).changed.Pairwise (· < ·) →
      (∀ j ∈ (s.notice p).changed, i ≤ j) ∧
      served (.nextChanged p []) s =
        .next (servedState p 0x44 0
          (okWith ([indexByte i, contentByte (s.entry i).content] ++
            (match (s.entry i).content with
              | .vacant => [0, 0, 0, 0, 0, 0, 0]
              | .live r | .retired r _ => [kindByte r.kind] ++ be16 r.value ++ be32 r.changedGen)))
          (sentByte p s) (s.setNotice p { s.notice p with changed := rest }))

/-! ### Saves, wipe and reload -/

/-- `save_start`: SAVE_BUSY while a save is in flight, IMAGE_LIMIT at the last sequence; otherwise the save
anchor and G_s are the current G, the target is the bank that is not active with its marker removed, and the
erase is begun. -/
def Obligations.SaveStartServed : Prop :=
  ∀ (p : Port) (s : State), quiet p s = true →
    let sequence : Gen := match s.save.active with | some n => (s.store.get n).sequence | none => 0
    let target : BankName :=
      match s.save.active with | some .A => .B | some .B => .A | none => .A
    (s.save.record.state ≠ .idle → served (.saveStart p []) s =
      .next (servedState p 0x50 0
        { status := .saveBusy, payload :=
          [saveStateByte s.save.record.state, portOrNoneByte s.save.record.starter] }
        (sentByte p s) s)) ∧
    (s.save.record.state = .idle → sequence = 4294967295 → served (.saveStart p []) s =
      .next (servedState p 0x50 0
        { status := .imageLimit, payload := [bankByte s.save.active] } (sentByte p s) s)) ∧
    (s.save.record.state = .idle → sequence ≠ 4294967295 → served (.saveStart p []) s =
      .next (servedState p 0x50 0 (okWith (be32 s.table.g ++ [bankByte (some target)]))
        (sentByte p s)
        (((s.setSaveAnchor (some s.table.g)).withSave { s.save with
            record := { s.save.record with
              state := .erasing, starter := some p, target := some target, gs := some s.table.g,
              nextIndex := 0, copied := 0 }
            work := .erase }).withStore
          (s.store.set target { s.store.get target with marker := false }))))

/-- `save_status` answers the save record that may be seen, with the active bank, and changes nothing;
the record seen is the record itself while no operation is in progress that changes it. `save_abort` by
the first row that applies, read from the save record that may be seen; accepted, it decides ABORTED,
ends the work on the Store and asks for the end operation. -/
def Obligations.SaveStatusAndAbort : Prop :=
  ((∀ (p : Port) (s : State), takesAttached p s = true →
     let r := seenRecord s
     exec (.saveStatus p []) s =
       .next (answeredState p 0x52 0
         (okWith ([saveStateByte r.state, outcomeByte r.endPending, portOrNoneByte r.starter,
           bankByte r.target] ++ (match r.gs with | some g => 1 :: be32 g | none => [0, 0, 0, 0, 0]) ++
           [indexByte r.nextIndex] ++ count16 r.copied ++
           [outcomeByte r.lastOutcome, bankByte s.save.active] ++
           be32 (match s.save.active with | some n => (s.store.get n).sequence | none => 0)))
         (sentByte p s) s)) ∧
   ∀ s : State, (s.arbiter.op = none → seenRecord s = s.save.record) ∧
     ∀ o r, s.arbiter.op = some o → o.saveSeen = some r → seenRecord s = r) ∧
  (∀ (p : Port) (s : State), takesAttached p s = true →
     let r := seenRecord s
     let answered (a : Answer) (t : State) : Prop :=
       exec (.saveAbort p []) s = .next (answeredState p 0x51 0 a (sentByte p s) t)
     (r.state = .idle → answered (bare .noSave) s) ∧
     (r.state ≠ .idle → r.starter ≠ some p → p ≠ .P0 → answered (bare .noRight) s) ∧
     (r.state ≠ .idle → r.starter = some p ∨ p = .P0 →
       (r.endPending ≠ none ∨ r.state = .closing → answered (bare .saveBusy) s) ∧
       (r.endPending = none → r.state ≠ .closing →
         answered (okWith ([saveStateByte r.state] ++
             be32 (match r.gs with | some g => g | none => 0) ++ count16 r.copied))
           (s.withSave { s.save with
             record := { s.save.record with endPending := some .aborted }
             work := .none
             request := some .finish }))))

/-- `table_wipe` on P0: every entry VACANT, no tag, no dependents, G 0, no drafts, no anchors, countdowns
stopped; WIPE with the changed set emptied to every attached port; a save in ERASING or COPYING ended
ABORTED with SAVE beside it, a copy or end request of it withdrawn and an outcome pending for it replaced,
and a save in another phase untouched. Nothing else changes. So for a wipe served whole on a quiet part,
and for the grant and completion of a wipe in flight whatever else is asked for: the requests of the other
ports and of the Lifetime Timer stay. -/
def Obligations.TableWipeServed : Prop :=
  let wiped (s t : State) : Prop :=
    let ends := s.save.record.state = .erasing ∨ s.save.record.state = .copying
    (∀ i, t.entry i = { content := .vacant, claim := none, waiters := noPorts }) ∧
    t.table.tagIndex = [] ∧ (∀ i, t.table.dependents.get i = []) ∧ t.table.g = 0 ∧
    (∀ q, t.draft q = [] ∧ t.anchor q = none) ∧ t.table.saveAnchor = none ∧
    t.timer = { s.timer with
      draftCount := ⟨.stopped, .stopped, .stopped, .stopped⟩
      anchorCount := ⟨.stopped, .stopped, .stopped, .stopped⟩ } ∧
    (∀ q, t.notice q = if s.attached q then
      raiseTest { s.notice q with
        changed := []
        flags := (s.notice q).flags ||| flagWIPE ||| (if ends then flagSAVE else 0) }
      else s.notice q) ∧
    t.save = (if ends then
      { s.save with
        record := { s.save.record with
          state := .idle, endPending := none, lastOutcome := some .aborted }
        work := .none
        request := none }
      else s.save) ∧
    t.store = s.store ∧ t.nreset = s.nreset ∧ t.freePick = s.freePick
  (∀ s : State, quiet .P0 s = true → ∃ t, served (.tableWipe .P0 []) s =
      .next (servedState .P0 0x60 0 (okWith (be32 s.table.g)) (sentByte .P0 s) t) ∧
    wiped s t ∧ t.ports = s.ports) ∧
  ∀ (s : State) (f : InFlight), nextGrant s = some (.pu .P0) → (s.port .P0).unit = some f →
    f.cmd = .tableWipe →
    ∃ t, runRows [.tableOperationGrant, .tableOperationCompletion] s = .next t ∧ wiped s t ∧
      t.ports = s.ports.set .P0 { s.port .P0 with
        request := false
        unit := none
        result := some
          { opcode := f.opcode, seq := f.seq,
            answer := withHandle f.resolved (okWith (be32 s.table.g)) }
        resultValid := true } ∧
      t.arbiter = { searchStart := .pu .P1, op := none } ∧ t.pending = s.pending

/-- `table_reload` on P0: refused SAVE_BUSY with nothing changed while a save is in flight; otherwise the
table is wiped and loaded from the bank chosen afresh, and every attached port receives WIPE with its changed
set emptied. -/
def Obligations.TableReloadServed : Prop :=
  ∀ s : State, quiet .P0 s = true →
    (s.save.record.state ≠ .idle → served (.tableReload .P0 []) s =
      .next (servedState .P0 0x61 0
        { status := .saveBusy, payload :=
          [saveStateByte s.save.record.state, portOrNoneByte s.save.record.starter] }
        (sentByte .P0 s) s)) ∧
    (s.save.record.state = .idle →
      let bank := selectBank s.store
      ∃ t, served (.tableReload .P0 []) s =
          .next (servedState .P0 0x61 0
            (okWith (be32 s.table.g ++ count16 (countEntries Entry.isLive t.table.entries) ++
              [bankByte bank] ++
              be32 (match bank with | some n => (s.store.get n).sequence | none => 0) ++
              optGen (bank.map fun n => (s.store.get n).gs))) (sentByte .P0 s) t) ∧
        t.table = (loadImage (s.withTable resetTable)).table ∧
        t.timer = { s.timer with
          draftCount := ⟨.stopped, .stopped, .stopped, .stopped⟩
          anchorCount := ⟨.stopped, .stopped, .stopped, .stopped⟩ } ∧
        (∀ q, t.notice q = if s.attached q then
          raiseTest { s.notice q with changed := [], flags := (s.notice q).flags ||| flagWIPE }
          else s.notice q) ∧
        t.save = { s.save with active := bank, device := .ready } ∧
        t.ports = s.ports ∧ t.store = s.store ∧ t.nreset = s.nreset ∧ t.freePick = s.freePick)

/-! ### Save Engine rows -/

/-- The erase of the target bank ends: verified, the bank is blank, the state COPYING and the copy of
the entry at next index asked for; not verified, FAULT is decided and the state kept. The program of a
record ends: verified, the record stands at the position equal to records copied, which advances by one,
and the next entry is asked for, or after entry 255 CLOSING begins with its header write; not verified,
FAULT is decided. The header write ends: verified, the target bank holds the active sequence plus one,
or 1, with G_s and the count, becomes the active bank and DONE is decided; not verified, its marker is
removed and the second erase begins, at whose end FAULT is decided whether it verifies or not. Model
choices: the header values of an erased bank and what a failed erase, program or second erase leaves in the
Store (log 15), validity by the content its CRC was computed over (log 14), the verify result as an operand
of the row (log 16). -/
def Obligations.StoreWorkRows : Prop :=
  ((∀ (s : State) (n : BankName), s.save.work = .erase → s.save.record.target = some n →
      exec (.saveEraseComplete true) s =
        .next ((s.withStore (s.store.set n
            { marker := false, sequence := 0, gs := 0, count := 0, crc := none, records := [] })).withSave
          { s.save with
            record := { s.save.record with state := .copying }
            work := .none
            request := some .copy }) ∧
      exec (.saveEraseComplete false) s =
        .next (s.withSave { s.save with
          record := { s.save.record with endPending := some .fault }
          work := .none
          request := some .finish })) ∧
   (∀ (s : State) (n : BankName) (r : RetainedRecord), s.save.work = .program r →
      s.save.record.target = some n → s.save.record.copied ≤ (s.store.get n).records.length →
      (∃ t, exec (.recordProgramComplete true) s = .next t ∧
        (t.store.get n).records[s.save.record.copied]? = some r ∧
        (t.store.get n).records.length = s.save.record.copied + 1 ∧
        (∀ k, k < s.save.record.copied →
          (t.store.get n).records[k]? = (s.store.get n).records[k]?) ∧
        t.store = s.store.set n { s.store.get n with records := (t.store.get n).records } ∧
        t.save.work = (if s.save.record.nextIndex.val = 255 then .header else .none) ∧
        t.save.request = (if s.save.record.nextIndex.val = 255 then none else some .copy) ∧
        t.save.record = { s.save.record with
          copied := s.save.record.copied + 1
          nextIndex := if s.save.record.nextIndex.val = 255 then s.save.record.nextIndex
            else s.save.record.nextIndex + 1
          state := if s.save.record.nextIndex.val = 255 then .closing
            else s.save.record.state } ∧
        t = { s with store := t.store, save := { s.save with
          record := t.save.record, work := t.save.work, request := t.save.request } }) ∧
      exec (.recordProgramComplete false) s =
        .next (s.withSave { s.save with
          record := { s.save.record with endPending := some .fault }
          work := .none
          request := some .finish }))) ∧
  (∀ (s : State) (n : BankName), s.save.record.target = some n →
     (s.save.work = .header → ∃ t, exec (.headerWriteComplete true) s = .next t ∧
       (t.store.get n).marker = true ∧
       (t.store.get n).sequence =
         (match s.save.active with | some m => (s.store.get m).sequence + 1 | none => 1) ∧
       (∀ g, s.save.record.gs = some g → (t.store.get n).gs = g) ∧
       (t.store.get n).count = s.save.record.copied ∧
       (t.store.get n).records = (s.store.get n).records ∧
       (s.save.record.copied ≤ 256 → bankValid (t.store.get n) = true) ∧
       t.store = s.store.set n (t.store.get n) ∧
       t = { s with store := t.store, save := { s.save with
         record := { s.save.record with endPending := some .done }
         work := .none
         request := some .finish
         active := some n } }) ∧
     (s.save.work = .header → exec (.headerWriteComplete false) s =
       .next ((s.withStore (s.store.set n { s.store.get n with marker := false })).withSave
         { s.save with work := .reerase })) ∧
     (s.save.work = .reerase → ∀ verified : Bool, ∃ t,
       exec (.headerReeraseComplete verified) s = .next t ∧
       t.save = { s.save with
         record := { s.save.record with endPending := some .fault }
         work := .none
         request := some .finish } ∧
       t.store = (if verified then s.store.set n
           { marker := false, sequence := 0, gs := 0, count := 0, crc := none, records := [] }
         else s.store) ∧
       t = { s with store := t.store, save := t.save }))

/-- The copy of one entry: its grant reads the entry at next index and changes only the arbiter and the
Save Engine's request; its completion asks for the next entry, begins a program, or decides TORN, and
decides nothing when an outcome was decided meanwhile. The outcome of a visit at G_s: no record for a
VACANT or unretained entry, one that did not exist then or was already retired; TORN for a value twice
replaced or outside the current bounds; else a record of the entry with the value found. The row is the
model's form of the grant (log 20), and an absent G_s counts as 0 (log 24). -/
def Obligations.SaveCopyRows : Prop :=
  ((∀ s : State, nextGrant s = some .save → s.save.request = some .copy →
     exec .saveCopy s =
       .next ((s.withSave { s.save with request := none }).withArbiter
         { searchStart := .pu .P0
           op := some
             { requester := .save
               answer := none
               finish := .copy (visitEntry s.save.record.nextIndex
                 (s.entry s.save.record.nextIndex).content
                 (match s.save.record.gs with | some g => g | none => 0))
               saveSeen := some s.save.record } }) ∧
     exec .saveCopy s = exec .tableOperationGrant s) ∧
   ∀ (s : State) (op : TableOperation) (v : Visit), s.arbiter.op = some op → op.finish = .copy v →
     op.requester = .save →
     ∃ t, exec .tableOperationCompletion s = .next t ∧
       t = { s with
         arbiter := { s.arbiter with op := none }
         save := t.save } ∧
       (s.save.record.endPending ≠ none → t.save = s.save) ∧
       (s.save.record.endPending = none →
         (v = .torn → t.save = { s.save with
           record := { s.save.record with endPending := some .torn }
           work := .none
           request := some .finish }) ∧
         (∀ r, v = .record r → t.save = { s.save with work := .program r, request := none }) ∧
         (v = .noRecord → s.save.record.nextIndex.val < 255 → t.save = { s.save with
           record := { s.save.record with nextIndex := s.save.record.nextIndex + 1 }
           work := .none
           request := some .copy }) ∧
         (v = .noRecord → s.save.record.nextIndex.val = 255 → t.save = { s.save with
           record := { s.save.record with state := .closing }
           work := .header
           request := none }))) ∧
  (∀ (i : Index) (gs : Gen), visitEntry i .vacant gs = .noRecord ∧
     ∀ (c : Content) (r : Rec), (c = .live r ∨ ∃ rg, c = .retired r rg) →
       (r.retain = false → visitEntry i c gs = .noRecord) ∧
       (r.retain = true →
         (versionedRead c gs = .absent → visitEntry i c gs = .noRecord) ∧
         (∀ rg, versionedRead c gs = .retired rg → visitEntry i c gs = .noRecord) ∧
         (∀ pg, versionedRead c gs = .stale pg → visitEntry i c gs = .torn) ∧
         ∀ v g, versionedRead c gs = .found v g →
           (within r.kind r.low r.high v = false → visitEntry i c gs = .torn) ∧
           (within r.kind r.low r.high v = true → visitEntry i c gs = .record
             { index := i, tag := r.tag, kind := r.kind, policy := r.policy, low := r.low,
               high := r.high, value := v, owner := r.owner, writeSet := r.writeSet,
               coupling := r.coupling })))

/-- The end of a save: its grant drops a held save anchor with the vacate test; its completion gives SAVE to
every attached port, moves end pending to last outcome and returns to IDLE. The row is the model's form of
the grant (log 20). -/
def Obligations.SaveEndRows : Prop :=
  (∀ s : State, nextGrant s = some .save → s.save.request = some .finish →
    exec .saveEnd s =
      .next (((if s.table.saveAnchor = none then s else vacateTest (s.setSaveAnchor none)).withSave
          { s.save with request := none }).withArbiter
        { searchStart := .pu .P0
          op := some
            { requester := .save, answer := none, finish := .saveEnd,
              saveSeen := some s.save.record } }) ∧
    exec .saveEnd s = exec .tableOperationGrant s) ∧
  ∀ (s : State) (op : TableOperation), s.arbiter.op = some op → op.finish = .saveEnd →
    op.requester = .save →
    ∃ t, exec .tableOperationCompletion s = .next t ∧
      (∀ q, t.notice q = if s.attached q then
        raiseTest { s.notice q with flags := (s.notice q).flags ||| flagSAVE } else s.notice q) ∧
      t = { s with
        arbiter := { s.arbiter with op := none }
        notices := t.notices
        save := { s.save with record := { s.save.record with
          state := .idle, lastOutcome := s.save.record.endPending, endPending := none } } }

/-! ### The arbiter -/

/-- The arbiter grants only while nRESET is high, no start-up load and no operation is in progress, and then
the first requester holding a request in circular order from the search start; it grants none when none
holds one. -/
def Obligations.GrantRotation : Prop :=
  ∀ s : State,
    (mayGrant s = true ↔ s.nreset = true ∧ s.save.startup = false ∧ s.arbiter.op = none) ∧
    (mayGrant s = false → nextGrant s = none) ∧
    (mayGrant s = true →
      (nextGrant s = none ↔ ∀ r, holdsRequest s r = false) ∧
      ∀ r, nextGrant s = some r ↔ ∃ k, k < 6 ∧ r = nextRequester^[k] s.arbiter.searchStart ∧
        holdsRequest s r = true ∧
        ∀ j, j < k → holdsRequest s (nextRequester^[j] s.arbiter.searchStart) = false)

/-- A grant to a Port Unit: its request is dropped, the work of its command in flight is done on the
state as it stands, the outcome waits for the completion, and the search start passes the port. With no
grant to make the row changes nothing. The row SESSION_END is the grant of that operation: the work is
done on the table and the operation stands in progress, its answer kept for the completion. The row is
the model's form of the event (log 20). That the whole work and its deliveries stand in the grant's own
next state is the model's choice (log 4); so is a grant row with no grant to make (log 2). -/
def Obligations.GrantRows : Prop :=
  ((∀ s : State, nextGrant s = none → exec .tableOperationGrant s = .next s) ∧
   ∀ (s : State) (p : Port) (f : InFlight), nextGrant s = some (.pu p) →
     (s.port p).unit = some f →
     let q := runTableCmd p f.cmd (s.setPort p { s.port p with request := false })
     exec .tableOperationGrant s =
       .next (q.1.withArbiter
         { searchStart := nextRequester (.pu p)
           op := some
             { requester := .pu p
               answer := some (match f.resolved with
                 | some i => { status := q.2.1.status, payload := indexByte i :: q.2.1.payload }
                 | none => q.2.1)
               finish := q.2.2
               saveSeen := if changesSave q.2.2 then some s.save.record else none } })) ∧
  (∀ (p : Port) (s : State) (f : InFlight) (re : Bool), nextGrant s = some (.pu p) →
     (s.port p).unit = some f → f.cmd = .sessionEnd re →
     exec (.sessionEnd p) s =
       .next ((opSessionEnd p re (s.setPort p { s.port p with request := false })).1.withArbiter
         { searchStart := nextRequester (.pu p)
           op := some
             { requester := .pu p
               answer := some (withHandle f.resolved
                 (opSessionEnd p re (s.setPort p { s.port p with request := false })).2)
               finish := .session p re
               saveSeen := none } }) ∧
     exec (.sessionEnd p) s = exec .tableOperationGrant s)

/-- A completion hands the outcome to the port of the command: the result record with the opcode and number
in flight, valid, the command unit IDLE; the search start stays. The completion of an expiry of the Lifetime
Timer hands back nothing and ends the operation. Model choices: with no operation in progress the row
changes nothing (log 2), and a completion changes no table, the work being done at the grant (log 4). -/
def Obligations.CompletionWritesResult : Prop :=
  (∀ s : State, s.arbiter.op = none → exec .tableOperationCompletion s = .next s) ∧
  (∀ (s : State) (seen : Option SaveRecord),
    s.arbiter.op =
      some { requester := .timer, answer := none, finish := .plain, saveSeen := seen } →
    exec .tableOperationCompletion s =
      .next (s.withArbiter { searchStart := s.arbiter.searchStart, op := none })) ∧
  ∀ (s : State) (p : Port) (f : InFlight) (a : Answer) (fin : Finish) (seen : Option SaveRecord),
    s.arbiter.op = some { requester := .pu p, answer := some a, finish := fin, saveSeen := seen } →
    (s.port p).unit = some f →
    ∃ t, exec .tableOperationCompletion s = .next t ∧
      (t.port p).result = some { opcode := f.opcode, seq := f.seq, answer := a } ∧
      (t.port p).resultValid = true ∧ (t.port p).unit = none ∧
      (t.port p).seq = (s.port p).seq ∧ (t.port p).link = (s.port p).link ∧
      t.arbiter = { searchStart := s.arbiter.searchStart, op := none } ∧ t.table = s.table ∧
      (fin = .plain → t = (s.withArbiter { s.arbiter with op := none }).setPort p
        { s.port p with
          result := some { opcode := f.opcode, seq := f.seq, answer := a }
          resultValid := true
          unit := none })

/-! ### Lifetimes -/

/-- One step of the time base steps every countdown by its table, and posts the expiries of those that
reach zero and are not pending yet, in one group behind those already pending; nothing else changes. The
rows of one countdown reaching zero: at remaining life 1 it becomes ELAPSED and its expiry joins the
pending ones unless it is a member; a STOPPED or ELAPSED countdown, or one with more life, is left as it
is. The rows are the model's form of the event (log 7). -/
def Obligations.CountdownRows : Prop :=
  ((∀ s : State, s.nreset = true → ∃ t group, exec .timeBaseStep s = .next t ∧
     (∀ p, t.timer.draftCount.get p = stepCount (s.timer.draftCount.get p) ∧
       t.timer.anchorCount.get p = stepCount (s.timer.anchorCount.get p)) ∧
     t.timer.expiries = s.timer.expiries ++ (if group = [] then [] else [group]) ∧
     (∀ p, Expiry.draft p ∈ group ↔ s.timer.draftCount.get p ≠ .elapsed ∧
       stepCount (s.timer.draftCount.get p) = .elapsed ∧
       ∀ b ∈ s.timer.expiries, Expiry.draft p ∉ b) ∧
     (∀ p, Expiry.anchor p ∈ group ↔ s.timer.anchorCount.get p ≠ .elapsed ∧
       stepCount (s.timer.anchorCount.get p) = .elapsed ∧
       ∀ b ∈ s.timer.expiries, Expiry.anchor p ∉ b) ∧
     group.Nodup ∧ t.timer.draftLife = s.timer.draftLife ∧
     t.timer.anchorLife = s.timer.anchorLife ∧ t = { s with timer := t.timer }) ∧
   (stepCount .stopped = .stopped ∧ stepCount .elapsed = .elapsed ∧
     stepCount (.running 1) = .elapsed ∧
     ∀ r : Byte, 2 ≤ r.toNat → stepCount (.running r) = .running (r - 1)) ∧
   restartCount 0 = .stopped ∧ ∀ l : Byte, l ≠ 0 → restartCount l = .running l) ∧
  (∀ (p : Port) (s : State), s.nreset = true →
     (s.timer.draftCount.get p = .running 1 → exec (.draftCountdownElapsed p) s =
       .next (s.withTimer { s.timer with
         draftCount := s.timer.draftCount.set p .elapsed
         expiries := if s.timer.expiries.any (fun b => b.contains (.draft p)) then s.timer.expiries
           else s.timer.expiries ++ [[.draft p]] })) ∧
     (s.timer.anchorCount.get p = .running 1 → exec (.anchorCountdownElapsed p) s =
       .next (s.withTimer { s.timer with
         anchorCount := s.timer.anchorCount.set p .elapsed
         expiries := if s.timer.expiries.any (fun b => b.contains (.anchor p)) then s.timer.expiries
           else s.timer.expiries ++ [[.anchor p]] })) ∧
     ((∀ r, s.timer.draftCount.get p = .running r → 1 < r.toNat) →
       exec (.draftCountdownElapsed p) s = .next s) ∧
     ((∀ r, s.timer.anchorCount.get p = .running r → 1 < r.toNat) →
       exec (.anchorCountdownElapsed p) s = .next s))

/-- A grant of the Lifetime Timer serves an expiry of the earliest group, which leaves the set. A draft
expiry acts only on a non-empty draft with an ELAPSED countdown: the draft is emptied, its claims end
with FREE, the countdown stops and DEXP is delivered. An anchor expiry acts only on a held anchor with
an ELAPSED countdown: the anchor is removed, the countdown stops, PEXP is delivered and the vacate test
applied. Otherwise it is void. The rows are the model's form of the grant (log 20). The grant row serves
some member of the earliest group, whichever the free choice is (log 6). That DEXP, PEXP and FREE stand
in the grant's own next state is the model's choice (log 4). -/
def Obligations.ExpiryRows : Prop :=
  (∀ (p : Port) (s : State) (group : List Expiry) (later : List (List Expiry)),
     nextGrant s = some .timer → expiryGroups s = group :: later →
     let granted (t : State) : State := t.withArbiter
       { searchStart := .save
         op := some { requester := .timer, answer := none, finish := .plain, saveSeen := none } }
     let without (e : Expiry) : State := s.withTimer { s.timer with
       expiries := (s.timer.expiries.map fun b => b.filter fun x => x != e).filter fun b =>
         !b.isEmpty }
     (Expiry.draft p ∈ group →
       (s.draft p ≠ [] → s.timer.draftCount.get p = .elapsed →
         exec (.draftExpiry p) s = .next (granted
           (deliver (fun q => { flags := if q = p then flagDEXP else 0, indices := [],
                                empties := false })
             (((endClaims (s.draft p) (without (.draft p))).setDraft p []).withTimer
               { (without (.draft p)).timer with
                 draftCount := s.timer.draftCount.set p .stopped })))) ∧
       (s.draft p = [] ∨ s.timer.draftCount.get p ≠ .elapsed →
         exec (.draftExpiry p) s = .next (granted (without (.draft p))))) ∧
     (Expiry.anchor p ∈ group →
       (s.anchor p ≠ none → s.timer.anchorCount.get p = .elapsed →
         exec (.anchorExpiry p) s = .next (granted
           (vacateTest (deliver (fun q => { flags := if q = p then flagPEXP else 0, indices := [],
                                            empties := false })
             (((without (.anchor p)).setAnchor p none).withTimer
               { (without (.anchor p)).timer with
                 anchorCount := s.timer.anchorCount.set p .stopped }))))) ∧
       (s.anchor p = none ∨ s.timer.anchorCount.get p ≠ .elapsed →
         exec (.anchorExpiry p) s = .next (granted (without (.anchor p)))))) ∧
  (∀ s : State, nextGrant s = some .timer →
     ∃ (group : List Expiry) (later : List (List Expiry)) (e : Expiry),
       expiryGroups s = group :: later ∧ e ∈ group ∧
       exec .tableOperationGrant s =
         .next (grantExpiry e (s.withPick (s.freePick + 1))))

/-! ### Chip reset and start-up -/

/-- While nRESET falls, rises, or power is applied: every block takes its reset value, nATTN is high,
transactions on the wire are abandoned with their SDO held in high impedance until nCS rises with nRESET high,
and the Retained Store keeps its contents. The device is LOADING with the start-up mark set once nRESET has
risen. Model choices: a fall while nRESET is low changes nothing (log 2); power-on is a rise with nRESET high,
and the values while nRESET is low (log 12); an ignored transaction ends at its rise of nCS also in reset, its
hold on SDO standing then (log 13). -/
def Obligations.ChipResetRows : Prop :=
  let cleared (s t : State) : Prop :=
    (∀ p, (t.port p).session = .detached ∧ (t.port p).win0 = 0 ∧ (t.port p).win1 = 1 ∧
      (t.port p).unit = none ∧ (t.port p).request = false ∧ (t.port p).result = none ∧
      (t.port p).resultValid = false ∧ (t.port p).seq = 0 ∧
      t.timer.draftLife.get p = 100 ∧ t.timer.anchorLife.get p = 50 ∧
      t.timer.draftCount.get p = .stopped ∧ t.timer.anchorCount.get p = .stopped ∧
      t.notice p = { flags := 0, enables := 0, gate := .disarmed, changed := [] } ∧
      nattnLow (t.notice p) = false ∧ t.draft p = [] ∧ t.anchor p = none) ∧
    (∀ i, t.entry i = { content := .vacant, claim := none, waiters := noPorts } ∧
      t.table.dependents.get i = []) ∧
    t.table.tagIndex = [] ∧ t.table.g = 0 ∧ t.table.saveAnchor = none ∧ t.timer.expiries = [] ∧
    t.arbiter = { searchStart := .pu .P0, op := none } ∧
    t.save.record = { state := .idle, starter := none, target := none, gs := none, nextIndex := 0,
                      copied := 0, endPending := none, lastOutcome := none } ∧
    t.save.request = none ∧ t.save.work = .none ∧ t.store = s.store ∧ t.pending = s.pending
  (∀ s : State, s.nreset = true → ∃ t, exec .nresetFall s = .next t ∧ cleared s t ∧
    t.nreset = false ∧ ∀ p, (t.port p).sdo = [] ∧
      ((s.port p).link = .idle → (t.port p).link = .idle ∧ (t.port p).sdoHeld = (s.port p).sdoHeld) ∧
      ((s.port p).link ≠ .idle → (t.port p).link = .ignored ∧ (t.port p).sdoHeld = true)) ∧
  (∀ s : State, s.nreset = false → exec .nresetFall s = .next s) ∧
  (∀ s : State, ∃ t, exec .nresetRise s = .next t ∧ cleared s t ∧ t.nreset = true ∧
    t.save.device = .loading ∧ t.save.startup = true ∧
    ∀ p, (t.port p).sdo = [] ∧
      (s.nreset = false ∨ (s.port p).link = .idle →
        (t.port p).link = (s.port p).link ∧ (t.port p).sdoHeld = (s.port p).sdoHeld) ∧
      (s.nreset = true → (s.port p).link ≠ .idle →
        (t.port p).link = .ignored ∧ (t.port p).sdoHeld = true)) ∧
  (∀ (p : Port) (s : State), s.nreset = false → (s.port p).link = .idle →
    exec (.ncsFall p) s = .next (s.setPort p { s.port p with link := .ignored, sdo := [] })) ∧
  ∀ (p : Port) (s : State) (o : Opcode) (ps : List Byte), (s.port p).link = .ignored →
    exec (rowOf o p ps) s = .next (s.setPort p { s.port p with
      link := .idle, sdoHeld := if s.nreset then false else (s.port p).sdoHeld })

/-- The state after reset: the values above with the start-up load to come, its bank pointer and store
as the model chooses them (log 9, log 10, log 11), and an empty queue. The laws hold in the state after
reset. -/
def Obligations.ResetStateLaws : Prop :=
  (State.reset.table.g = 0 ∧ (∀ i, State.reset.entry i = vacantEntry) ∧
   (∀ p, State.reset.attached p = false ∧ (State.reset.notice p).gate = .disarmed ∧
     State.reset.draft p = [] ∧ State.reset.anchor p = none) ∧
   State.reset.nreset = true ∧ State.reset.save.device = .loading ∧
   State.reset.save.startup = true ∧ State.reset.arbiter = { searchStart := .pu .P0, op := none } ∧
   State.reset.store = { a := blankBank, b := blankBank } ∧ State.reset.save.active = none ∧
   State.reset.pending = []) ∧
  (gateLaw State.reset ∧ changedLaw State.reset ∧ startupLaw State.reset ∧ claimLaw State.reset ∧
     generationLaw State.reset ∧ saveAnchorLaw State.reset ∧ rangeLaw State.reset ∧
     tableLaw State.reset.table ∧ SaveLaw State.reset ∧ activeValid State.reset)

/-- The start-up load: the banks are read and the image loaded, the device becomes READY and the start-
up mark clears; nothing is delivered, and outside a start-up load the row changes nothing. A load of the
active bank: its records, and no others, are LIVE at their indices with generation 0 and retain yes, for
records at different indices; the tag index holds one pair for each of them, for different tags; the banks
themselves stay. The choice of the active bank: the valid one;
of two valid banks the one with the higher sequence, and A where they are equal; none where neither is
valid. Model choices: the row that changes nothing (log 2), STARTUP_LOAD as a row of its own (log 10), and
validity by the content a bank's CRC was computed over (log 14). -/
def Obligations.ImageLoaded : Prop :=
  (∀ s : State,
     (s.nreset = true → s.save.startup = true → exec .startupLoad s =
       .next ((s.withTable (loadImage s).table).withSave { s.save with
         active := selectBank s.store, device := .ready, startup := false })) ∧
     (s.nreset = false ∨ s.save.startup = false → exec .startupLoad s = .next s)) ∧
  (∀ s : State, s.table = resetTable → ((imageRecords (loadImage s)).map RetainedRecord.index).Nodup →
     (loadImage s).save = { s.save with active := selectBank s.store } ∧
     (loadImage s).store = s.store ∧
     (∀ r ∈ imageRecords (loadImage s), (loadImage s).entry r.index =
       { content := .live
           { tag := r.tag, kind := r.kind, policy := r.policy, retain := true, low := r.low,
             high := r.high, value := r.value, changedGen := 0, prior := none, bornGen := 0,
             owner := r.owner, writeSet := r.writeSet, subscribers := noPorts,
             coupling := r.coupling }
         claim := none, waiters := noPorts }) ∧
     (∀ i, (∀ r ∈ imageRecords (loadImage s), r.index ≠ i) →
       (loadImage s).entry i = { content := .vacant, claim := none, waiters := noPorts }) ∧
     (∀ e d, d ∈ (loadImage s).table.dependents.get e ↔
       ∃ r ∈ imageRecords (loadImage s), r.index = d ∧
         ∃ c, r.coupling = some c ∧ c.partner = e) ∧
     (((imageRecords (loadImage s)).map RetainedRecord.tag).Nodup → ∀ tag i,
       lookupTag tag (loadImage s).table.tagIndex = some i ↔
         ∃ r ∈ imageRecords (loadImage s), r.tag = tag ∧ r.index = i) ∧
     (loadImage s).table.g = 0 ∧ (∀ q, (loadImage s).draft q = [] ∧ (loadImage s).anchor q = none) ∧
     (loadImage s).table.saveAnchor = none) ∧
  (∀ st : RetainedStore,
     (bankValid st.a = true → bankValid st.b = false → selectBank st = some .A) ∧
     (bankValid st.a = false → bankValid st.b = true → selectBank st = some .B) ∧
     (bankValid st.a = true → bankValid st.b = true →
       selectBank st = if st.b.sequence ≤ st.a.sequence then some .A else some .B) ∧
     (bankValid st.a = false → bankValid st.b = false → selectBank st = none) ∧
     (∀ b : Bank, bankValid b = true → b.marker = true ∧ b.count ≤ 256) ∧
     ∀ (b : Bank) (sequence gs : Gen) (n : Nat), n ≤ 256 →
       bankValid (writeHeader sequence gs n b) = true)

/-! ### Laws of the whole part -/

/-- Every step keeps the law of the gate: no enabled flag is pending in ARMED, and one is in RAISED.
Every step keeps the changed sets without duplicates, in ascending order. -/
def Obligations.NoticeLawsKept : Prop :=
  (∀ s t : State, gateLaw s → step s = .next t → gateLaw t) ∧
  (∀ s t : State, changedLaw s → step s = .next t → changedLaw t)

/-- Every step keeps claims, waiters and drafts in agreement, and each item's entry in the state its kind
needs. -/
def Obligations.ClaimsKept : Prop :=
  ∀ s t : State, startupLaw s → claimLaw s → step s = .next t → startupLaw t ∧ claimLaw t

/-- Every step keeps the stamps in order, every anchor at or below G, and every RETIRED entry held by an
anchor below its retirement. -/
def Obligations.GenerationsKept : Prop :=
  ∀ s t : State, startupLaw s → claimLaw s → saveAnchorLaw s → generationLaw s →
    step s = .next t → saveAnchorLaw t ∧ generationLaw t

/-- Every step keeps every value within its bounds, in the table, in the banks and in a record on its way to
a bank. -/
def Obligations.RangesKept : Prop :=
  ∀ s t : State, startupLaw s → claimLaw s → rangeLaw s → step s = .next t → rangeLaw t

/-- Every step keeps the Save Engine's phases in order and its active bank valid: through any save, abort,
fault, wipe, reload or chip reset. -/
def Obligations.ActiveBankKept : Prop :=
  ∀ s t : State, SaveLaw s → activeValid s → step s = .next t → SaveLaw t ∧ activeValid t

/-- Every step keeps the laws of tags, the tag index, couplings and dependents, where the image that a load
would read obeys the same laws of tags and couplings; and so does a release served whole on a quiet part,
which reads no image. -/
def Obligations.TableLawsKept : Prop :=
  (∀ s t : State, startupLaw s → claimLaw s → tableLaw s.table → selectedImageLaw s.store →
     step s = .next t → tableLaw t.table) ∧
  ∀ (p : Port) (s t : State), quiet p s = true → claimLaw s → tableLaw s.table →
    served (.release p []) s = .next t → tableLaw t.table

/-- A step leaves G, advances it by exactly one, or returns it to 0. -/
def Obligations.GenerationCounts : Prop :=
  ∀ s t : State, step s = .next t →
    t.table.g = s.table.g ∨ (s.table.g ≠ 4294967295 ∧ t.table.g = s.table.g + 1) ∨ t.table.g = 0

/-- The Retained Store changes only at the end of an erase, a program, a header write or a second erase, and
at the completion of a table operation, which for an accepted save removes the target's marker. -/
def Obligations.StoreChangesOnlyByItsWork : Prop :=
  ∀ (c : Instr) (s t : State), exec c s = .next t → t.store ≠ s.store →
    (∃ v, c = .saveEraseComplete v) ∨ (∃ v, c = .recordProgramComplete v) ∨
    (∃ v, c = .headerWriteComplete v) ∨ (∃ v, c = .headerReeraseComplete v) ∨
    (c = .tableOperationCompletion ∧ ∃ p g, finishing s (.saveStart p g))
end

