-- ==== Sys2Proof/Laws/State.lean ====
section
/-! SUPPORT. One lemma for each field under each update of the state, and the reads of ports, entries,
drafts and anchors under the named updates. No later proof unfolds an update of the state. -/

namespace Sys2Proof.Machine

variable (s : State)

section
variable (v : Bool)

@[simp] theorem withNreset_nreset : (s.withNreset v).nreset = v := rfl
@[simp] theorem withNreset_ports : (s.withNreset v).ports = s.ports := rfl
@[simp] theorem withNreset_notices : (s.withNreset v).notices = s.notices := rfl
@[simp] theorem withNreset_table : (s.withNreset v).table = s.table := rfl
@[simp] theorem withNreset_timer : (s.withNreset v).timer = s.timer := rfl
@[simp] theorem withNreset_arbiter : (s.withNreset v).arbiter = s.arbiter := rfl
@[simp] theorem withNreset_save : (s.withNreset v).save = s.save := rfl
@[simp] theorem withNreset_store : (s.withNreset v).store = s.store := rfl
@[simp] theorem withNreset_freePick : (s.withNreset v).freePick = s.freePick := rfl
@[simp] theorem withNreset_pending : (s.withNreset v).pending = s.pending := rfl

end

section
variable (v : PerPort PortUnit)

@[simp] theorem withPorts_nreset : (s.withPorts v).nreset = s.nreset := rfl
@[simp] theorem withPorts_ports : (s.withPorts v).ports = v := rfl
@[simp] theorem withPorts_notices : (s.withPorts v).notices = s.notices := rfl
@[simp] theorem withPorts_table : (s.withPorts v).table = s.table := rfl
@[simp] theorem withPorts_timer : (s.withPorts v).timer = s.timer := rfl
@[simp] theorem withPorts_arbiter : (s.withPorts v).arbiter = s.arbiter := rfl
@[simp] theorem withPorts_save : (s.withPorts v).save = s.save := rfl
@[simp] theorem withPorts_store : (s.withPorts v).store = s.store := rfl
@[simp] theorem withPorts_freePick : (s.withPorts v).freePick = s.freePick := rfl
@[simp] theorem withPorts_pending : (s.withPorts v).pending = s.pending := rfl

end

section
variable (v : PerPort NoticeUnit)

@[simp] theorem withNotices_nreset : (s.withNotices v).nreset = s.nreset := rfl
@[simp] theorem withNotices_ports : (s.withNotices v).ports = s.ports := rfl
@[simp] theorem withNotices_notices : (s.withNotices v).notices = v := rfl
@[simp] theorem withNotices_table : (s.withNotices v).table = s.table := rfl
@[simp] theorem withNotices_timer : (s.withNotices v).timer = s.timer := rfl
@[simp] theorem withNotices_arbiter : (s.withNotices v).arbiter = s.arbiter := rfl
@[simp] theorem withNotices_save : (s.withNotices v).save = s.save := rfl
@[simp] theorem withNotices_store : (s.withNotices v).store = s.store := rfl
@[simp] theorem withNotices_freePick : (s.withNotices v).freePick = s.freePick := rfl
@[simp] theorem withNotices_pending : (s.withNotices v).pending = s.pending := rfl

end

section
variable (v : TableController)

@[simp] theorem withTable_nreset : (s.withTable v).nreset = s.nreset := rfl
@[simp] theorem withTable_ports : (s.withTable v).ports = s.ports := rfl
@[simp] theorem withTable_notices : (s.withTable v).notices = s.notices := rfl
@[simp] theorem withTable_table : (s.withTable v).table = v := rfl
@[simp] theorem withTable_timer : (s.withTable v).timer = s.timer := rfl
@[simp] theorem withTable_arbiter : (s.withTable v).arbiter = s.arbiter := rfl
@[simp] theorem withTable_save : (s.withTable v).save = s.save := rfl
@[simp] theorem withTable_store : (s.withTable v).store = s.store := rfl
@[simp] theorem withTable_freePick : (s.withTable v).freePick = s.freePick := rfl
@[simp] theorem withTable_pending : (s.withTable v).pending = s.pending := rfl

end

section
variable (v : LifetimeTimer)

@[simp] theorem withTimer_nreset : (s.withTimer v).nreset = s.nreset := rfl
@[simp] theorem withTimer_ports : (s.withTimer v).ports = s.ports := rfl
@[simp] theorem withTimer_notices : (s.withTimer v).notices = s.notices := rfl
@[simp] theorem withTimer_table : (s.withTimer v).table = s.table := rfl
@[simp] theorem withTimer_timer : (s.withTimer v).timer = v := rfl
@[simp] theorem withTimer_arbiter : (s.withTimer v).arbiter = s.arbiter := rfl
@[simp] theorem withTimer_save : (s.withTimer v).save = s.save := rfl
@[simp] theorem withTimer_store : (s.withTimer v).store = s.store := rfl
@[simp] theorem withTimer_freePick : (s.withTimer v).freePick = s.freePick := rfl
@[simp] theorem withTimer_pending : (s.withTimer v).pending = s.pending := rfl

end

section
variable (v : Arbiter)

@[simp] theorem withArbiter_nreset : (s.withArbiter v).nreset = s.nreset := rfl
@[simp] theorem withArbiter_ports : (s.withArbiter v).ports = s.ports := rfl
@[simp] theorem withArbiter_notices : (s.withArbiter v).notices = s.notices := rfl
@[simp] theorem withArbiter_table : (s.withArbiter v).table = s.table := rfl
@[simp] theorem withArbiter_timer : (s.withArbiter v).timer = s.timer := rfl
@[simp] theorem withArbiter_arbiter : (s.withArbiter v).arbiter = v := rfl
@[simp] theorem withArbiter_save : (s.withArbiter v).save = s.save := rfl
@[simp] theorem withArbiter_store : (s.withArbiter v).store = s.store := rfl
@[simp] theorem withArbiter_freePick : (s.withArbiter v).freePick = s.freePick := rfl
@[simp] theorem withArbiter_pending : (s.withArbiter v).pending = s.pending := rfl

end

section
variable (v : SaveEngine)

@[simp] theorem withSave_nreset : (s.withSave v).nreset = s.nreset := rfl
@[simp] theorem withSave_ports : (s.withSave v).ports = s.ports := rfl
@[simp] theorem withSave_notices : (s.withSave v).notices = s.notices := rfl
@[simp] theorem withSave_table : (s.withSave v).table = s.table := rfl
@[simp] theorem withSave_timer : (s.withSave v).timer = s.timer := rfl
@[simp] theorem withSave_arbiter : (s.withSave v).arbiter = s.arbiter := rfl
@[simp] theorem withSave_save : (s.withSave v).save = v := rfl
@[simp] theorem withSave_store : (s.withSave v).store = s.store := rfl
@[simp] theorem withSave_freePick : (s.withSave v).freePick = s.freePick := rfl
@[simp] theorem withSave_pending : (s.withSave v).pending = s.pending := rfl

end

section
variable (v : RetainedStore)

@[simp] theorem withStore_nreset : (s.withStore v).nreset = s.nreset := rfl
@[simp] theorem withStore_ports : (s.withStore v).ports = s.ports := rfl
@[simp] theorem withStore_notices : (s.withStore v).notices = s.notices := rfl
@[simp] theorem withStore_table : (s.withStore v).table = s.table := rfl
@[simp] theorem withStore_timer : (s.withStore v).timer = s.timer := rfl
@[simp] theorem withStore_arbiter : (s.withStore v).arbiter = s.arbiter := rfl
@[simp] theorem withStore_save : (s.withStore v).save = s.save := rfl
@[simp] theorem withStore_store : (s.withStore v).store = v := rfl
@[simp] theorem withStore_freePick : (s.withStore v).freePick = s.freePick := rfl
@[simp] theorem withStore_pending : (s.withStore v).pending = s.pending := rfl

end

section
variable (v : Nat)

@[simp] theorem withPick_nreset : (s.withPick v).nreset = s.nreset := rfl
@[simp] theorem withPick_ports : (s.withPick v).ports = s.ports := rfl
@[simp] theorem withPick_notices : (s.withPick v).notices = s.notices := rfl
@[simp] theorem withPick_table : (s.withPick v).table = s.table := rfl
@[simp] theorem withPick_timer : (s.withPick v).timer = s.timer := rfl
@[simp] theorem withPick_arbiter : (s.withPick v).arbiter = s.arbiter := rfl
@[simp] theorem withPick_save : (s.withPick v).save = s.save := rfl
@[simp] theorem withPick_store : (s.withPick v).store = s.store := rfl
@[simp] theorem withPick_freePick : (s.withPick v).freePick = v := rfl
@[simp] theorem withPick_pending : (s.withPick v).pending = s.pending := rfl

end

section
variable (v : List Instr)

@[simp] theorem withPending_nreset : (s.withPending v).nreset = s.nreset := rfl
@[simp] theorem withPending_ports : (s.withPending v).ports = s.ports := rfl
@[simp] theorem withPending_notices : (s.withPending v).notices = s.notices := rfl
@[simp] theorem withPending_table : (s.withPending v).table = s.table := rfl
@[simp] theorem withPending_timer : (s.withPending v).timer = s.timer := rfl
@[simp] theorem withPending_arbiter : (s.withPending v).arbiter = s.arbiter := rfl
@[simp] theorem withPending_save : (s.withPending v).save = s.save := rfl
@[simp] theorem withPending_store : (s.withPending v).store = s.store := rfl
@[simp] theorem withPending_freePick : (s.withPending v).freePick = s.freePick := rfl
@[simp] theorem withPending_pending : (s.withPending v).pending = v := rfl

end

/-! ### Values for each port -/

@[simp] theorem PerPort.get_set_same {α : Type} (f : PerPort α) (p : Port) (a : α) :
    (f.set p a).get p = a := by cases p <;> rfl

@[simp] theorem PerPort.get_set_ne {α : Type} (f : PerPort α) (p q : Port) (a : α) (h : q ≠ p) :
    (f.set p a).get q = f.get q := by cases p <;> cases q <;> first | rfl | exact absurd rfl h

theorem PerPort.get_set {α : Type} (f : PerPort α) (p q : Port) (a : α) :
    (f.set p a).get q = if q = p then a else f.get q := by cases p <;> cases q <;> rfl

@[simp] theorem PerPort.get_make {α : Type} (g : Port → α) (p : Port) :
    (PerPort.make g).get p = g p := by cases p <;> rfl

theorem PerPort.ext_get {α : Type} {f g : PerPort α} (h : ∀ p, f.get p = g.get p) : f = g := by
  cases f; cases g
  exact congr (congr (congr (congrArg PerPort.mk (h .P0)) (h .P1)) (h .P2)) (h .P3)

@[simp] theorem PerPort.set_get_self {α : Type} (f : PerPort α) (p : Port) :
    f.set p (f.get p) = f := by cases p <;> rfl

@[simp] theorem PerPort.set_set {α : Type} (f : PerPort α) (p : Port) (a b : α) :
    (f.set p a).set p b = f.set p b := by cases p <;> rfl

@[simp] theorem PerPort.make_get {α : Type} (f : PerPort α) : PerPort.make f.get = f := rfl

/-! ### Ports and Notice Units -/

section
variable (p q : Port)

@[simp] theorem setPort_port (u : PortUnit) : (s.setPort p u).port p = u := by
  simp [State.setPort, State.port]

theorem setPort_port_ne (u : PortUnit) (h : q ≠ p) : (s.setPort p u).port q = s.port q := by
  simp [State.setPort, State.port, h]

theorem setPort_port_if (u : PortUnit) :
    (s.setPort p u).port q = if q = p then u else s.port q := by
  simp [State.setPort, State.port, PerPort.get_set]

@[simp] theorem setNotice_notice (n : NoticeUnit) : (s.setNotice p n).notice p = n := by
  simp [State.setNotice, State.notice]

theorem setNotice_notice_ne (n : NoticeUnit) (h : q ≠ p) :
    (s.setNotice p n).notice q = s.notice q := by
  simp [State.setNotice, State.notice, h]

theorem setNotice_notice_if (n : NoticeUnit) :
    (s.setNotice p n).notice q = if q = p then n else s.notice q := by
  simp [State.setNotice, State.notice, PerPort.get_set]

@[simp] theorem setDraft_draft (d : List Item) : (s.setDraft p d).draft p = d := by
  simp [State.setDraft, State.draft]

theorem setDraft_draft_ne (d : List Item) (h : q ≠ p) : (s.setDraft p d).draft q = s.draft q := by
  simp [State.setDraft, State.draft, h]

@[simp] theorem setAnchor_anchor (a : Option Gen) : (s.setAnchor p a).anchor p = a := by
  simp [State.setAnchor, State.anchor]

theorem setAnchor_anchor_ne (a : Option Gen) (h : q ≠ p) :
    (s.setAnchor p a).anchor q = s.anchor q := by
  simp [State.setAnchor, State.anchor, h]

end

/-! ### Entries -/

@[simp] theorem setEntry_entry (i : Index) (e : Entry) : (s.setEntry i e).entry i = e := by
  simp [State.setEntry, State.entry, State.withEntries, Vector.get_eq_getElem]

theorem setEntry_entry_ne (i j : Index) (e : Entry) (h : j ≠ i) :
    (s.setEntry i e).entry j = s.entry j := by
  have : i.val ≠ j.val := fun hv => h (Fin.ext hv.symm)
  simp [State.setEntry, State.entry, State.withEntries, Vector.get_eq_getElem,
    Vector.getElem_set_ne, this]

theorem get_set_entries (t : Entries) (i j : Index) (e : Entry) :
    (t.set i.val e i.isLt).get j = if j = i then e else t.get j := by
  by_cases h : j = i
  · subst h; simp [Vector.get_eq_getElem]
  · have : i.val ≠ j.val := fun hv => h (Fin.ext hv.symm)
    simp [Vector.get_eq_getElem, Vector.getElem_set_ne, this, h]

@[simp] theorem mapEntries_get (f : Entry → Entry) (t : Entries) (i : Index) :
    (mapEntries f t).get i = f (t.get i) := by
  simp [mapEntries, Vector.get_eq_getElem]

/-! ### The fields the named updates keep -/

@[simp] theorem setPort_nreset (p : Port) (u : PortUnit) : (s.setPort p u).nreset = s.nreset := rfl
@[simp] theorem setPort_notices (p : Port) (u : PortUnit) : (s.setPort p u).notices = s.notices := rfl
@[simp] theorem setPort_table (p : Port) (u : PortUnit) : (s.setPort p u).table = s.table := rfl
@[simp] theorem setPort_timer (p : Port) (u : PortUnit) : (s.setPort p u).timer = s.timer := rfl
@[simp] theorem setPort_arbiter (p : Port) (u : PortUnit) : (s.setPort p u).arbiter = s.arbiter := rfl
@[simp] theorem setPort_save (p : Port) (u : PortUnit) : (s.setPort p u).save = s.save := rfl
@[simp] theorem setPort_store (p : Port) (u : PortUnit) : (s.setPort p u).store = s.store := rfl
@[simp] theorem setPort_freePick (p : Port) (u : PortUnit) : (s.setPort p u).freePick = s.freePick := rfl
@[simp] theorem setPort_pending (p : Port) (u : PortUnit) : (s.setPort p u).pending = s.pending := rfl

@[simp] theorem setNotice_nreset (p : Port) (n : NoticeUnit) : (s.setNotice p n).nreset = s.nreset := rfl
@[simp] theorem setNotice_ports (p : Port) (n : NoticeUnit) : (s.setNotice p n).ports = s.ports := rfl
@[simp] theorem setNotice_table (p : Port) (n : NoticeUnit) : (s.setNotice p n).table = s.table := rfl
@[simp] theorem setNotice_timer (p : Port) (n : NoticeUnit) : (s.setNotice p n).timer = s.timer := rfl
@[simp] theorem setNotice_arbiter (p : Port) (n : NoticeUnit) : (s.setNotice p n).arbiter = s.arbiter := rfl
@[simp] theorem setNotice_save (p : Port) (n : NoticeUnit) : (s.setNotice p n).save = s.save := rfl
@[simp] theorem setNotice_store (p : Port) (n : NoticeUnit) : (s.setNotice p n).store = s.store := rfl
@[simp] theorem setNotice_freePick (p : Port) (n : NoticeUnit) : (s.setNotice p n).freePick = s.freePick := rfl
@[simp] theorem setNotice_pending (p : Port) (n : NoticeUnit) : (s.setNotice p n).pending = s.pending := rfl

@[simp] theorem withEntries_nreset (t : Entries) : (s.withEntries t).nreset = s.nreset := rfl
@[simp] theorem withEntries_ports (t : Entries) : (s.withEntries t).ports = s.ports := rfl
@[simp] theorem withEntries_notices (t : Entries) : (s.withEntries t).notices = s.notices := rfl
@[simp] theorem withEntries_timer (t : Entries) : (s.withEntries t).timer = s.timer := rfl
@[simp] theorem withEntries_arbiter (t : Entries) : (s.withEntries t).arbiter = s.arbiter := rfl
@[simp] theorem withEntries_save (t : Entries) : (s.withEntries t).save = s.save := rfl
@[simp] theorem withEntries_store (t : Entries) : (s.withEntries t).store = s.store := rfl
@[simp] theorem withEntries_freePick (t : Entries) : (s.withEntries t).freePick = s.freePick := rfl
@[simp] theorem withEntries_pending (t : Entries) : (s.withEntries t).pending = s.pending := rfl

@[simp] theorem setEntry_nreset (i : Index) (e : Entry) : (s.setEntry i e).nreset = s.nreset := rfl
@[simp] theorem setEntry_ports (i : Index) (e : Entry) : (s.setEntry i e).ports = s.ports := rfl
@[simp] theorem setEntry_notices (i : Index) (e : Entry) : (s.setEntry i e).notices = s.notices := rfl
@[simp] theorem setEntry_timer (i : Index) (e : Entry) : (s.setEntry i e).timer = s.timer := rfl
@[simp] theorem setEntry_arbiter (i : Index) (e : Entry) : (s.setEntry i e).arbiter = s.arbiter := rfl
@[simp] theorem setEntry_save (i : Index) (e : Entry) : (s.setEntry i e).save = s.save := rfl
@[simp] theorem setEntry_store (i : Index) (e : Entry) : (s.setEntry i e).store = s.store := rfl
@[simp] theorem setEntry_freePick (i : Index) (e : Entry) : (s.setEntry i e).freePick = s.freePick := rfl
@[simp] theorem setEntry_pending (i : Index) (e : Entry) : (s.setEntry i e).pending = s.pending := rfl

@[simp] theorem setDraft_nreset (p : Port) (d : List Item) : (s.setDraft p d).nreset = s.nreset := rfl
@[simp] theorem setDraft_ports (p : Port) (d : List Item) : (s.setDraft p d).ports = s.ports := rfl
@[simp] theorem setDraft_notices (p : Port) (d : List Item) : (s.setDraft p d).notices = s.notices := rfl
@[simp] theorem setDraft_timer (p : Port) (d : List Item) : (s.setDraft p d).timer = s.timer := rfl
@[simp] theorem setDraft_arbiter (p : Port) (d : List Item) : (s.setDraft p d).arbiter = s.arbiter := rfl
@[simp] theorem setDraft_save (p : Port) (d : List Item) : (s.setDraft p d).save = s.save := rfl
@[simp] theorem setDraft_store (p : Port) (d : List Item) : (s.setDraft p d).store = s.store := rfl
@[simp] theorem setDraft_freePick (p : Port) (d : List Item) : (s.setDraft p d).freePick = s.freePick := rfl
@[simp] theorem setDraft_pending (p : Port) (d : List Item) : (s.setDraft p d).pending = s.pending := rfl

@[simp] theorem setAnchor_nreset (p : Port) (a : Option Gen) : (s.setAnchor p a).nreset = s.nreset := rfl
@[simp] theorem setAnchor_ports (p : Port) (a : Option Gen) : (s.setAnchor p a).ports = s.ports := rfl
@[simp] theorem setAnchor_notices (p : Port) (a : Option Gen) : (s.setAnchor p a).notices = s.notices := rfl
@[simp] theorem setAnchor_timer (p : Port) (a : Option Gen) : (s.setAnchor p a).timer = s.timer := rfl
@[simp] theorem setAnchor_arbiter (p : Port) (a : Option Gen) : (s.setAnchor p a).arbiter = s.arbiter := rfl
@[simp] theorem setAnchor_save (p : Port) (a : Option Gen) : (s.setAnchor p a).save = s.save := rfl
@[simp] theorem setAnchor_store (p : Port) (a : Option Gen) : (s.setAnchor p a).store = s.store := rfl
@[simp] theorem setAnchor_freePick (p : Port) (a : Option Gen) : (s.setAnchor p a).freePick = s.freePick := rfl
@[simp] theorem setAnchor_pending (p : Port) (a : Option Gen) : (s.setAnchor p a).pending = s.pending := rfl

@[simp] theorem setSaveAnchor_nreset (a : Option Gen) : (s.setSaveAnchor a).nreset = s.nreset := rfl
@[simp] theorem setSaveAnchor_ports (a : Option Gen) : (s.setSaveAnchor a).ports = s.ports := rfl
@[simp] theorem setSaveAnchor_notices (a : Option Gen) : (s.setSaveAnchor a).notices = s.notices := rfl
@[simp] theorem setSaveAnchor_timer (a : Option Gen) : (s.setSaveAnchor a).timer = s.timer := rfl
@[simp] theorem setSaveAnchor_arbiter (a : Option Gen) : (s.setSaveAnchor a).arbiter = s.arbiter := rfl
@[simp] theorem setSaveAnchor_save (a : Option Gen) : (s.setSaveAnchor a).save = s.save := rfl
@[simp] theorem setSaveAnchor_store (a : Option Gen) : (s.setSaveAnchor a).store = s.store := rfl
@[simp] theorem setSaveAnchor_freePick (a : Option Gen) : (s.setSaveAnchor a).freePick = s.freePick := rfl
@[simp] theorem setSaveAnchor_pending (a : Option Gen) : (s.setSaveAnchor a).pending = s.pending := rfl

@[simp] theorem withRecord_nreset (r : SaveRecord) : (s.withRecord r).nreset = s.nreset := rfl
@[simp] theorem withRecord_ports (r : SaveRecord) : (s.withRecord r).ports = s.ports := rfl
@[simp] theorem withRecord_notices (r : SaveRecord) : (s.withRecord r).notices = s.notices := rfl
@[simp] theorem withRecord_table (r : SaveRecord) : (s.withRecord r).table = s.table := rfl
@[simp] theorem withRecord_timer (r : SaveRecord) : (s.withRecord r).timer = s.timer := rfl
@[simp] theorem withRecord_arbiter (r : SaveRecord) : (s.withRecord r).arbiter = s.arbiter := rfl
@[simp] theorem withRecord_store (r : SaveRecord) : (s.withRecord r).store = s.store := rfl
@[simp] theorem withRecord_freePick (r : SaveRecord) : (s.withRecord r).freePick = s.freePick := rfl
@[simp] theorem withRecord_pending (r : SaveRecord) : (s.withRecord r).pending = s.pending := rfl

/-! ### The reads the named updates keep -/

@[simp] theorem withNreset_port (v : Bool) (q : Port) : (s.withNreset v).port q = s.port q := rfl
@[simp] theorem withNreset_notice (v : Bool) (q : Port) : (s.withNreset v).notice q = s.notice q := rfl
@[simp] theorem withNreset_entry (v : Bool) (j : Index) : (s.withNreset v).entry j = s.entry j := rfl
@[simp] theorem withNreset_draft (v : Bool) (q : Port) : (s.withNreset v).draft q = s.draft q := rfl
@[simp] theorem withNreset_anchor (v : Bool) (q : Port) : (s.withNreset v).anchor q = s.anchor q := rfl
@[simp] theorem withNreset_attached (v : Bool) (q : Port) : (s.withNreset v).attached q = s.attached q := rfl
@[simp] theorem withPorts_notice (v : PerPort PortUnit) (q : Port) : (s.withPorts v).notice q = s.notice q := rfl
@[simp] theorem withPorts_entry (v : PerPort PortUnit) (j : Index) : (s.withPorts v).entry j = s.entry j := rfl
@[simp] theorem withPorts_draft (v : PerPort PortUnit) (q : Port) : (s.withPorts v).draft q = s.draft q := rfl
@[simp] theorem withPorts_anchor (v : PerPort PortUnit) (q : Port) : (s.withPorts v).anchor q = s.anchor q := rfl
@[simp] theorem withNotices_port (v : PerPort NoticeUnit) (q : Port) : (s.withNotices v).port q = s.port q := rfl
@[simp] theorem withNotices_entry (v : PerPort NoticeUnit) (j : Index) : (s.withNotices v).entry j = s.entry j := rfl
@[simp] theorem withNotices_draft (v : PerPort NoticeUnit) (q : Port) : (s.withNotices v).draft q = s.draft q := rfl
@[simp] theorem withNotices_anchor (v : PerPort NoticeUnit) (q : Port) : (s.withNotices v).anchor q = s.anchor q := rfl
@[simp] theorem withNotices_attached (v : PerPort NoticeUnit) (q : Port) : (s.withNotices v).attached q = s.attached q := rfl
@[simp] theorem withTable_port (v : TableController) (q : Port) : (s.withTable v).port q = s.port q := rfl
@[simp] theorem withTable_notice (v : TableController) (q : Port) : (s.withTable v).notice q = s.notice q := rfl
@[simp] theorem withTable_attached (v : TableController) (q : Port) : (s.withTable v).attached q = s.attached q := rfl
@[simp] theorem withTimer_port (v : LifetimeTimer) (q : Port) : (s.withTimer v).port q = s.port q := rfl
@[simp] theorem withTimer_notice (v : LifetimeTimer) (q : Port) : (s.withTimer v).notice q = s.notice q := rfl
@[simp] theorem withTimer_entry (v : LifetimeTimer) (j : Index) : (s.withTimer v).entry j = s.entry j := rfl
@[simp] theorem withTimer_draft (v : LifetimeTimer) (q : Port) : (s.withTimer v).draft q = s.draft q := rfl
@[simp] theorem withTimer_anchor (v : LifetimeTimer) (q : Port) : (s.withTimer v).anchor q = s.anchor q := rfl
@[simp] theorem withTimer_attached (v : LifetimeTimer) (q : Port) : (s.withTimer v).attached q = s.attached q := rfl
@[simp] theorem withArbiter_port (v : Arbiter) (q : Port) : (s.withArbiter v).port q = s.port q := rfl
@[simp] theorem withArbiter_notice (v : Arbiter) (q : Port) : (s.withArbiter v).notice q = s.notice q := rfl
@[simp] theorem withArbiter_entry (v : Arbiter) (j : Index) : (s.withArbiter v).entry j = s.entry j := rfl
@[simp] theorem withArbiter_draft (v : Arbiter) (q : Port) : (s.withArbiter v).draft q = s.draft q := rfl
@[simp] theorem withArbiter_anchor (v : Arbiter) (q : Port) : (s.withArbiter v).anchor q = s.anchor q := rfl
@[simp] theorem withArbiter_attached (v : Arbiter) (q : Port) : (s.withArbiter v).attached q = s.attached q := rfl
@[simp] theorem withSave_port (v : SaveEngine) (q : Port) : (s.withSave v).port q = s.port q := rfl
@[simp] theorem withSave_notice (v : SaveEngine) (q : Port) : (s.withSave v).notice q = s.notice q := rfl
@[simp] theorem withSave_entry (v : SaveEngine) (j : Index) : (s.withSave v).entry j = s.entry j := rfl
@[simp] theorem withSave_draft (v : SaveEngine) (q : Port) : (s.withSave v).draft q = s.draft q := rfl
@[simp] theorem withSave_anchor (v : SaveEngine) (q : Port) : (s.withSave v).anchor q = s.anchor q := rfl
@[simp] theorem withSave_attached (v : SaveEngine) (q : Port) : (s.withSave v).attached q = s.attached q := rfl
@[simp] theorem withStore_port (v : RetainedStore) (q : Port) : (s.withStore v).port q = s.port q := rfl
@[simp] theorem withStore_notice (v : RetainedStore) (q : Port) : (s.withStore v).notice q = s.notice q := rfl
@[simp] theorem withStore_entry (v : RetainedStore) (j : Index) : (s.withStore v).entry j = s.entry j := rfl
@[simp] theorem withStore_draft (v : RetainedStore) (q : Port) : (s.withStore v).draft q = s.draft q := rfl
@[simp] theorem withStore_anchor (v : RetainedStore) (q : Port) : (s.withStore v).anchor q = s.anchor q := rfl
@[simp] theorem withStore_attached (v : RetainedStore) (q : Port) : (s.withStore v).attached q = s.attached q := rfl
@[simp] theorem withPick_port (v : Nat) (q : Port) : (s.withPick v).port q = s.port q := rfl
@[simp] theorem withPick_notice (v : Nat) (q : Port) : (s.withPick v).notice q = s.notice q := rfl
@[simp] theorem withPick_entry (v : Nat) (j : Index) : (s.withPick v).entry j = s.entry j := rfl
@[simp] theorem withPick_draft (v : Nat) (q : Port) : (s.withPick v).draft q = s.draft q := rfl
@[simp] theorem withPick_anchor (v : Nat) (q : Port) : (s.withPick v).anchor q = s.anchor q := rfl
@[simp] theorem withPick_attached (v : Nat) (q : Port) : (s.withPick v).attached q = s.attached q := rfl
@[simp] theorem withPending_port (v : List Instr) (q : Port) : (s.withPending v).port q = s.port q := rfl
@[simp] theorem withPending_notice (v : List Instr) (q : Port) : (s.withPending v).notice q = s.notice q := rfl
@[simp] theorem withPending_entry (v : List Instr) (j : Index) : (s.withPending v).entry j = s.entry j := rfl
@[simp] theorem withPending_draft (v : List Instr) (q : Port) : (s.withPending v).draft q = s.draft q := rfl
@[simp] theorem withPending_anchor (v : List Instr) (q : Port) : (s.withPending v).anchor q = s.anchor q := rfl
@[simp] theorem withPending_attached (v : List Instr) (q : Port) : (s.withPending v).attached q = s.attached q := rfl
@[simp] theorem setPort_notice (p : Port) (u : PortUnit) (q : Port) : (s.setPort p u).notice q = s.notice q := rfl
@[simp] theorem setPort_entry (p : Port) (u : PortUnit) (j : Index) : (s.setPort p u).entry j = s.entry j := rfl
@[simp] theorem setPort_draft (p : Port) (u : PortUnit) (q : Port) : (s.setPort p u).draft q = s.draft q := rfl
@[simp] theorem setPort_anchor (p : Port) (u : PortUnit) (q : Port) : (s.setPort p u).anchor q = s.anchor q := rfl
@[simp] theorem setNotice_port (p : Port) (n : NoticeUnit) (q : Port) : (s.setNotice p n).port q = s.port q := rfl
@[simp] theorem setNotice_entry (p : Port) (n : NoticeUnit) (j : Index) : (s.setNotice p n).entry j = s.entry j := rfl
@[simp] theorem setNotice_draft (p : Port) (n : NoticeUnit) (q : Port) : (s.setNotice p n).draft q = s.draft q := rfl
@[simp] theorem setNotice_anchor (p : Port) (n : NoticeUnit) (q : Port) : (s.setNotice p n).anchor q = s.anchor q := rfl
@[simp] theorem setNotice_attached (p : Port) (n : NoticeUnit) (q : Port) : (s.setNotice p n).attached q = s.attached q := rfl
@[simp] theorem withEntries_port (t : Entries) (q : Port) : (s.withEntries t).port q = s.port q := rfl
@[simp] theorem withEntries_notice (t : Entries) (q : Port) : (s.withEntries t).notice q = s.notice q := rfl
@[simp] theorem withEntries_attached (t : Entries) (q : Port) : (s.withEntries t).attached q = s.attached q := rfl
@[simp] theorem setEntry_port (i : Index) (e : Entry) (q : Port) : (s.setEntry i e).port q = s.port q := rfl
@[simp] theorem setEntry_notice (i : Index) (e : Entry) (q : Port) : (s.setEntry i e).notice q = s.notice q := rfl
@[simp] theorem setEntry_attached (i : Index) (e : Entry) (q : Port) : (s.setEntry i e).attached q = s.attached q := rfl
@[simp] theorem setDraft_port (p : Port) (d : List Item) (q : Port) : (s.setDraft p d).port q = s.port q := rfl
@[simp] theorem setDraft_notice (p : Port) (d : List Item) (q : Port) : (s.setDraft p d).notice q = s.notice q := rfl
@[simp] theorem setDraft_attached (p : Port) (d : List Item) (q : Port) : (s.setDraft p d).attached q = s.attached q := rfl
@[simp] theorem setAnchor_port (p : Port) (a : Option Gen) (q : Port) : (s.setAnchor p a).port q = s.port q := rfl
@[simp] theorem setAnchor_notice (p : Port) (a : Option Gen) (q : Port) : (s.setAnchor p a).notice q = s.notice q := rfl
@[simp] theorem setAnchor_attached (p : Port) (a : Option Gen) (q : Port) : (s.setAnchor p a).attached q = s.attached q := rfl
@[simp] theorem setSaveAnchor_port (a : Option Gen) (q : Port) : (s.setSaveAnchor a).port q = s.port q := rfl
@[simp] theorem setSaveAnchor_notice (a : Option Gen) (q : Port) : (s.setSaveAnchor a).notice q = s.notice q := rfl
@[simp] theorem setSaveAnchor_attached (a : Option Gen) (q : Port) : (s.setSaveAnchor a).attached q = s.attached q := rfl
@[simp] theorem withRecord_port (r : SaveRecord) (q : Port) : (s.withRecord r).port q = s.port q := rfl
@[simp] theorem withRecord_notice (r : SaveRecord) (q : Port) : (s.withRecord r).notice q = s.notice q := rfl
@[simp] theorem withRecord_entry (r : SaveRecord) (j : Index) : (s.withRecord r).entry j = s.entry j := rfl
@[simp] theorem withRecord_draft (r : SaveRecord) (q : Port) : (s.withRecord r).draft q = s.draft q := rfl
@[simp] theorem withRecord_anchor (r : SaveRecord) (q : Port) : (s.withRecord r).anchor q = s.anchor q := rfl
@[simp] theorem withRecord_attached (r : SaveRecord) (q : Port) : (s.withRecord r).attached q = s.attached q := rfl
@[simp] theorem withEntries_draft (t : Entries) (q : Port) : (s.withEntries t).draft q = s.draft q := rfl
@[simp] theorem withEntries_anchor (t : Entries) (q : Port) : (s.withEntries t).anchor q = s.anchor q := rfl
@[simp] theorem setEntry_draft (i : Index) (e : Entry) (q : Port) : (s.setEntry i e).draft q = s.draft q := rfl
@[simp] theorem setEntry_anchor (i : Index) (e : Entry) (q : Port) : (s.setEntry i e).anchor q = s.anchor q := rfl
@[simp] theorem setDraft_entry (p : Port) (d : List Item) (j : Index) : (s.setDraft p d).entry j = s.entry j := rfl
@[simp] theorem setDraft_anchor (p : Port) (d : List Item) (q : Port) : (s.setDraft p d).anchor q = s.anchor q := rfl
@[simp] theorem setAnchor_entry (p : Port) (a : Option Gen) (j : Index) : (s.setAnchor p a).entry j = s.entry j := rfl
@[simp] theorem setAnchor_draft (p : Port) (a : Option Gen) (q : Port) : (s.setAnchor p a).draft q = s.draft q := rfl
@[simp] theorem setSaveAnchor_entry (a : Option Gen) (j : Index) : (s.setSaveAnchor a).entry j = s.entry j := rfl
@[simp] theorem setSaveAnchor_draft (a : Option Gen) (q : Port) : (s.setSaveAnchor a).draft q = s.draft q := rfl
@[simp] theorem setSaveAnchor_anchor (a : Option Gen) (q : Port) : (s.setSaveAnchor a).anchor q = s.anchor q := rfl

/-! ### The Table Controller's fields under its updates -/

@[simp] theorem withEntries_table_tagIndex (t : Entries) : (s.withEntries t).table.tagIndex = s.table.tagIndex := rfl
@[simp] theorem withEntries_table_dependents (t : Entries) : (s.withEntries t).table.dependents = s.table.dependents := rfl
@[simp] theorem withEntries_table_g (t : Entries) : (s.withEntries t).table.g = s.table.g := rfl
@[simp] theorem withEntries_table_drafts (t : Entries) : (s.withEntries t).table.drafts = s.table.drafts := rfl
@[simp] theorem withEntries_table_anchors (t : Entries) : (s.withEntries t).table.anchors = s.table.anchors := rfl
@[simp] theorem withEntries_table_saveAnchor (t : Entries) : (s.withEntries t).table.saveAnchor = s.table.saveAnchor := rfl
@[simp] theorem setEntry_table_tagIndex (i : Index) (e : Entry) : (s.setEntry i e).table.tagIndex = s.table.tagIndex := rfl
@[simp] theorem setEntry_table_dependents (i : Index) (e : Entry) : (s.setEntry i e).table.dependents = s.table.dependents := rfl
@[simp] theorem setEntry_table_g (i : Index) (e : Entry) : (s.setEntry i e).table.g = s.table.g := rfl
@[simp] theorem setEntry_table_drafts (i : Index) (e : Entry) : (s.setEntry i e).table.drafts = s.table.drafts := rfl
@[simp] theorem setEntry_table_anchors (i : Index) (e : Entry) : (s.setEntry i e).table.anchors = s.table.anchors := rfl
@[simp] theorem setEntry_table_saveAnchor (i : Index) (e : Entry) : (s.setEntry i e).table.saveAnchor = s.table.saveAnchor := rfl
@[simp] theorem setDraft_table_entries (p : Port) (d : List Item) : (s.setDraft p d).table.entries = s.table.entries := rfl
@[simp] theorem setDraft_table_tagIndex (p : Port) (d : List Item) : (s.setDraft p d).table.tagIndex = s.table.tagIndex := rfl
@[simp] theorem setDraft_table_dependents (p : Port) (d : List Item) : (s.setDraft p d).table.dependents = s.table.dependents := rfl
@[simp] theorem setDraft_table_g (p : Port) (d : List Item) : (s.setDraft p d).table.g = s.table.g := rfl
@[simp] theorem setDraft_table_anchors (p : Port) (d : List Item) : (s.setDraft p d).table.anchors = s.table.anchors := rfl
@[simp] theorem setDraft_table_saveAnchor (p : Port) (d : List Item) : (s.setDraft p d).table.saveAnchor = s.table.saveAnchor := rfl
@[simp] theorem setAnchor_table_entries (p : Port) (a : Option Gen) : (s.setAnchor p a).table.entries = s.table.entries := rfl
@[simp] theorem setAnchor_table_tagIndex (p : Port) (a : Option Gen) : (s.setAnchor p a).table.tagIndex = s.table.tagIndex := rfl
@[simp] theorem setAnchor_table_dependents (p : Port) (a : Option Gen) : (s.setAnchor p a).table.dependents = s.table.dependents := rfl
@[simp] theorem setAnchor_table_g (p : Port) (a : Option Gen) : (s.setAnchor p a).table.g = s.table.g := rfl
@[simp] theorem setAnchor_table_drafts (p : Port) (a : Option Gen) : (s.setAnchor p a).table.drafts = s.table.drafts := rfl
@[simp] theorem setAnchor_table_saveAnchor (p : Port) (a : Option Gen) : (s.setAnchor p a).table.saveAnchor = s.table.saveAnchor := rfl
@[simp] theorem setSaveAnchor_table_entries (a : Option Gen) : (s.setSaveAnchor a).table.entries = s.table.entries := rfl
@[simp] theorem setSaveAnchor_table_tagIndex (a : Option Gen) : (s.setSaveAnchor a).table.tagIndex = s.table.tagIndex := rfl
@[simp] theorem setSaveAnchor_table_dependents (a : Option Gen) : (s.setSaveAnchor a).table.dependents = s.table.dependents := rfl
@[simp] theorem setSaveAnchor_table_g (a : Option Gen) : (s.setSaveAnchor a).table.g = s.table.g := rfl
@[simp] theorem setSaveAnchor_table_drafts (a : Option Gen) : (s.setSaveAnchor a).table.drafts = s.table.drafts := rfl
@[simp] theorem setSaveAnchor_table_anchors (a : Option Gen) : (s.setSaveAnchor a).table.anchors = s.table.anchors := rfl
@[simp] theorem withEntries_table_entries (t : Entries) : (s.withEntries t).table.entries = t := rfl
@[simp] theorem setSaveAnchor_table_saveAnchor (a : Option Gen) : (s.setSaveAnchor a).table.saveAnchor = a := rfl

end Sys2Proof.Machine
end

