-- ==== Sys2Proof/Laws/Ops.lean ====
section
/-! SUPPORT. What the shared operations can do, said once: index sets, the tag index, dependents, claims,
gates, deliveries and countdowns. Later proofs cite these and unfold nothing. -/

namespace Sys2Proof.Machine

/-! ### Index sets (R12, R132) -/

theorem mem_addIndex (i j : Index) (js : IndexSet) : j ∈ addIndex i js ↔ j = i ∨ j ∈ js := by
  induction js with
  | nil => simp [addIndex]
  | cons k ks ih =>
    unfold addIndex
    split
    · simp
    · split
      · subst_vars; simp
      · simp only [List.mem_cons, ih]; tauto

theorem addIndex_ascending (i : Index) (js : IndexSet) (h : js.Pairwise (· < ·)) :
    (addIndex i js).Pairwise (· < ·) := by
  induction js with
  | nil => simp [addIndex]
  | cons k ks ih =>
    have hk := List.pairwise_cons.1 h
    unfold addIndex
    split
    · rename_i hlt
      refine List.pairwise_cons.2 ⟨fun x hx => ?_, h⟩
      rcases List.mem_cons.1 hx with rfl | hx
      · exact hlt
      · exact lt_trans hlt (hk.1 x hx)
    · split
      · exact h
      · rename_i hlt hne
        refine List.pairwise_cons.2 ⟨fun x hx => ?_, ih hk.2⟩
        rcases (mem_addIndex i x ks).1 hx with rfl | hx
        · exact lt_of_le_of_ne (not_lt.1 hlt) (Ne.symm hne)
        · exact hk.1 x hx

theorem mem_dropIndex (i j : Index) (js : IndexSet) : j ∈ dropIndex i js ↔ j ∈ js ∧ j ≠ i := by
  simp [dropIndex]

/-! ### The tag index (R7, R8) -/

theorem lookupTag_addTag_same (t : Word) (i : Index) (ti : List (Word × Index)) :
    lookupTag t (addTag t i ti) = some i := by
  induction ti with
  | nil => simp [addTag, lookupTag]
  | cons q qs ih =>
    unfold addTag
    split
    · simp [lookupTag]
    · split
      · simp [lookupTag]
      · rename_i hne
        have hq : (q.1 == t) = false := by simp [Ne.symm hne]
        simpa [lookupTag, List.find?_cons, hq] using ih

theorem lookupTag_addTag_ne (t u : Word) (h : u ≠ t) (i : Index) (ti : List (Word × Index)) :
    lookupTag u (addTag t i ti) = lookupTag u ti := by
  have ht : (t == u) = false := by simp [Ne.symm h]
  induction ti with
  | nil => simp [addTag, lookupTag, ht]
  | cons q qs ih =>
    unfold addTag
    split
    · simp [lookupTag, ht]
    · split
      · rename_i heq
        have hq : (q.1 == u) = false := by simp [← heq, Ne.symm h]
        simp [lookupTag, ht, hq]
      · by_cases hq : q.1 == u
        · simp [lookupTag, hq]
        · simpa [lookupTag, List.find?_cons, hq] using ih

theorem lookupTag_dropTag (t u : Word) (ti : List (Word × Index)) :
    lookupTag u (dropTag t ti) = if u = t then none else lookupTag u ti := by
  induction ti with
  | nil => simp [dropTag, lookupTag]
  | cons q qs ih =>
    unfold dropTag lookupTag at ih ⊢
    by_cases hq : q.1 = t
    · by_cases hu : u = t
      · simp [hu]
      · have : (t == u) = false := by simp [Ne.symm hu]
        simpa [hq, hu, this] using ih
    · by_cases hqu : q.1 = u
      · have hu : u ≠ t := hqu ▸ hq
        simp [hqu, hu]
      · simpa [hq, hqu] using ih

/-! ### Dependents (R12) -/

theorem addDependent_get (e d i : Index) (v : Vector IndexSet 256) :
    (addDependent e d v).get i = if i = e then addIndex d (v.get e) else v.get i := by
  unfold addDependent
  by_cases h : i = e
  · subst h; simp [Vector.get_eq_getElem]
  · have : e.val ≠ i.val := fun x => h (Fin.ext x.symm)
    simp [Vector.get_eq_getElem, h, Vector.getElem_set_ne, this]

theorem dropDependent_get (e d i : Index) (v : Vector IndexSet 256) :
    (dropDependent e d v).get i = if i = e then dropIndex d (v.get e) else v.get i := by
  unfold dropDependent
  by_cases h : i = e
  · subst h; simp [Vector.get_eq_getElem]
  · have : e.val ≠ i.val := fun x => h (Fin.ext x.symm)
    simp [Vector.get_eq_getElem, h, Vector.getElem_set_ne, this]

/-! ### Values (R2, R3) -/

theorem leIn_iff (k : Kind) (a b : Word) : leIn k a b = true ↔ valueOf k a ≤ valueOf k b := by
  simp [leIn]

theorem within_iff (k : Kind) (low high v : Word) :
    within k low high v = true ↔ valueOf k low ≤ valueOf k v ∧ valueOf k v ≤ valueOf k high := by
  simp [within, leIn]

/-! ### Claims (R75) -/

theorem dropClaims_get (items : List Item) (t : Entries) (i : Index) :
    (dropClaims t items).get i =
      if items.any (fun it => it.index == i) then { t.get i with claim := none, waiters := noPorts }
      else t.get i := by
  unfold dropClaims
  induction items generalizing t with
  | nil => simp
  | cons it its ih =>
    rw [List.foldl_cons, ih, get_set_entries]
    by_cases h : it.index = i
    · subst h; simp
    · simp [h, Ne.symm h]

theorem waitersOf_has (t : Entries) (items : List Item) (q : Port) :
    PortSet.has (waitersOf t items) q =
      items.any fun it => PortSet.has (t.get it.index).waiters q := by
  simp [waitersOf, PortSet.has]

/-! ### The gate (R138, R139) -/

@[simp] theorem raiseTest_flags (n : NoticeUnit) : (raiseTest n).flags = n.flags := by
  unfold raiseTest; split <;> rfl

@[simp] theorem raiseTest_enables (n : NoticeUnit) : (raiseTest n).enables = n.enables := by
  unfold raiseTest; split <;> rfl

@[simp] theorem raiseTest_changed (n : NoticeUnit) : (raiseTest n).changed = n.changed := by
  unfold raiseTest; split <;> rfl

@[simp] theorem lowerTest_flags (n : NoticeUnit) : (lowerTest n).flags = n.flags := by
  unfold lowerTest; split <;> rfl

@[simp] theorem lowerTest_enables (n : NoticeUnit) : (lowerTest n).enables = n.enables := by
  unfold lowerTest; split <;> rfl

@[simp] theorem lowerTest_changed (n : NoticeUnit) : (lowerTest n).changed = n.changed := by
  unfold lowerTest; split <;> rfl

/-- The gate after the raise test. -/
theorem raiseTest_gate (n : NoticeUnit) :
    (raiseTest n).gate = if n.gate = .armed ∧ enabledPending n = true then .raised else n.gate := by
  unfold raiseTest; split <;> rfl

/-- The gate after the test for an enabled flag left. -/
theorem lowerTest_gate (n : NoticeUnit) :
    (lowerTest n).gate = if n.gate = .raised ∧ enabledPending n = false then .armed else n.gate := by
  unfold lowerTest; split <;> rfl

/-- A delivery that carries nothing changes nothing. -/
@[simp] theorem applyDelivery_none (n : NoticeUnit) : applyDelivery noDelivery n = n := by
  simp [applyDelivery]

/-! ### Deliveries (R133, R134) -/

section
variable (f : Port → Delivery) (s : State)

@[simp] theorem deliver_nreset : (deliver f s).nreset = s.nreset := rfl
@[simp] theorem deliver_ports : (deliver f s).ports = s.ports := rfl
@[simp] theorem deliver_table : (deliver f s).table = s.table := rfl
@[simp] theorem deliver_timer : (deliver f s).timer = s.timer := rfl
@[simp] theorem deliver_arbiter : (deliver f s).arbiter = s.arbiter := rfl
@[simp] theorem deliver_save : (deliver f s).save = s.save := rfl
@[simp] theorem deliver_store : (deliver f s).store = s.store := rfl
@[simp] theorem deliver_freePick : (deliver f s).freePick = s.freePick := rfl
@[simp] theorem deliver_pending : (deliver f s).pending = s.pending := rfl

/-- A delivery reaches the Notice Units of the ATTACHED ports and no other. -/
theorem deliver_notice (q : Port) :
    (deliver f s).notice q = if s.attached q then applyDelivery (f q) (s.notice q) else s.notice q := by
  simp [deliver, State.notice]

end

/-! ### Countdowns (R49, R80) -/

section
variable (s : State) (p : Port) (c : Countdown)

@[simp] theorem setDraftCount_table : (setDraftCount s p c).table = s.table := rfl
@[simp] theorem setDraftCount_ports : (setDraftCount s p c).ports = s.ports := rfl
@[simp] theorem setDraftCount_notices : (setDraftCount s p c).notices = s.notices := rfl
@[simp] theorem setDraftCount_save : (setDraftCount s p c).save = s.save := rfl
@[simp] theorem setDraftCount_store : (setDraftCount s p c).store = s.store := rfl
@[simp] theorem setDraftCount_arbiter : (setDraftCount s p c).arbiter = s.arbiter := rfl
@[simp] theorem setAnchorCount_table : (setAnchorCount s p c).table = s.table := rfl
@[simp] theorem setAnchorCount_ports : (setAnchorCount s p c).ports = s.ports := rfl
@[simp] theorem setAnchorCount_notices : (setAnchorCount s p c).notices = s.notices := rfl
@[simp] theorem setAnchorCount_save : (setAnchorCount s p c).save = s.save := rfl
@[simp] theorem setAnchorCount_store : (setAnchorCount s p c).store = s.store := rfl
@[simp] theorem setAnchorCount_arbiter : (setAnchorCount s p c).arbiter = s.arbiter := rfl

end

/-! ### The arbiter (R20, R21) -/

/-- What a grant leaves: the work's state with the operation in progress. -/
theorem beginOperation_eq (r : Requester) (a : Option Answer) (f : Finish) (s : State) :
    beginOperation r a f s =
      s.withArbiter
        { searchStart := nextRequester r
          op := some { requester := r, answer := a, finish := f,
                       saveSeen := if changesSave f then some s.save.record else none } } := rfl

/-- The arbiter makes a grant only where it may, to a requester that holds a request. -/
theorem nextGrant_some {s : State} {r : Requester} (h : nextGrant s = some r) :
    mayGrant s = true ∧ holdsRequest s r = true := by
  unfold nextGrant at h
  split at h
  · exact ⟨by assumption, List.find?_some h⟩
  · cases h

end Sys2Proof.Machine
end

