-- ==== Sys2Proof/Laws/Served.lean ====
section
/-! SUPPORT. What a transaction leaves when its command is answered at the take, and what a table
command leaves when it is granted at once and completed: the state after the command's own work, with
the answer in the port. The statements about commands start from these. -/

namespace Sys2Proof.Machine

/-! ### Work that does not read the port's transaction -/

/-- A Port Unit with the parts a transaction owns replaced: link, command unit, request, result,
sequence number, shifted bytes and SDO hold. Session and windows stay. -/
def retouch (l : Link) (f : Option InFlight) (rq : Bool) (rr : Option ResultRecord) (v : Bool)
    (n : Byte) (o : List Byte) (hd : Bool) (u : PortUnit) : PortUnit :=
  { u with link := l, unit := f, request := rq, result := rr, resultValid := v, seq := n, sdo := o,
           sdoHeld := hd }

theorem attached_setPort (s : State) (p q : Port) (u : PortUnit)
    (hu : u.session = (s.port p).session) : (s.setPort p u).attached q = s.attached q := by
  unfold State.attached
  by_cases h : q = p
  · subst h; simp [hu]
  · rw [setPort_port_ne _ _ _ _ h]

theorem deliver_setPort (s : State) (p : Port) (u : PortUnit) (f : Port → Delivery)
    (hu : u.session = (s.port p).session) :
    deliver f (s.setPort p u) = (deliver f s).setPort p u := by
  unfold deliver
  simp only [attached_setPort s p _ u hu]
  rfl

theorem deliverFlag_setPort (s : State) (p : Port) (u : PortUnit) (fl : NoticeFlags) (ps : PortSet)
    (hu : u.session = (s.port p).session) :
    deliverFlag fl ps (s.setPort p u) = (deliverFlag fl ps s).setPort p u :=
  deliver_setPort s p u _ hu

theorem endClaims_setPort (s : State) (p : Port) (u : PortUnit) (items : List Item)
    (hu : u.session = (s.port p).session) :
    endClaims items (s.setPort p u) = (endClaims items s).setPort p u :=
  deliverFlag_setPort (s.withEntries (dropClaims s.table.entries items)) p u flagFREE
    (waitersOf s.table.entries items) hu

theorem emptyDraft_setPort (s : State) (p q : Port) (u : PortUnit)
    (hu : u.session = (s.port p).session) :
    emptyDraft q (s.setPort p u) = (emptyDraft q s).setPort p u := by
  unfold emptyDraft
  rw [setPort_draft, endClaims_setPort s p u _ hu]
  rfl

theorem takeOut_setPort (s : State) (p q : Port) (i : Index) (u : PortUnit)
    (hu : u.session = (s.port p).session) :
    takeOut q i (s.setPort p u) = (takeOut q i s).setPort p u := by
  unfold takeOut
  rw [setPort_draft, endClaims_setPort s p u _ hu]
  rfl

/-- The same change of a port's transaction state, on the state a piece of work leaves. -/
def carry (p : Port) (u : PortUnit) (q : State × Answer) : State × Answer := (q.1.setPort p u, q.2)

theorem stageNew_setPort (s : State) (p q : Port) (i : Index) (c : Change) (u : PortUnit) :
    stageNew q i c (s.setPort p u) = carry p u (stageNew q i c s) := by
  unfold stageNew carry
  have h : draftIsFull q (s.setPort p u) = draftIsFull q s := rfl
  rw [h]
  split <;> rfl

theorem withdrawDefine_setPort (s : State) (p q : Port) (i : Index) (u : PortUnit)
    (hu : u.session = (s.port p).session) :
    withdrawDefine q i (s.setPort p u) = carry p u (withdrawDefine q i s) := by
  unfold withdrawDefine carry
  simp only [takeOut_setPort s p q i u hu, setPort_draft]
  split <;> rfl

theorem stageChange_setPort (s : State) (p q : Port) (i : Index) (m : Change → Option Change)
    (c : Change) (u : PortUnit) :
    stageChange q i m c (s.setPort p u) = carry p u (stageChange q i m c s) := by
  unfold stageChange
  have h : otherClaimant q i (s.setPort p u) = otherClaimant q i s := rfl
  simp only [h, setPort_draft, stageNew_setPort]
  split
  · rfl
  · split
    · split <;> rfl
    · rfl

theorem opStageSet_setPort (s : State) (p q : Port) (i : Index) (v : Word) (u : PortUnit) :
    opStageSet q i v (s.setPort p u) = carry p u (opStageSet q i v s) := by
  unfold opStageSet
  have h : (entryStateTest q i (s.setPort p u)).or (writeRightTest q i (s.setPort p u)) =
    (entryStateTest q i s).or (writeRightTest q i s) := rfl
  simp only [h, stageChange_setPort]
  split <;> rfl

theorem opStageRebound_setPort (s : State) (p q : Port) (i : Index) (lo hi : Word) (m : Byte)
    (v : Word) (u : PortUnit) :
    opStageRebound q i lo hi m v (s.setPort p u) = carry p u (opStageRebound q i lo hi m v s) := by
  unfold opStageRebound
  have h : (entryStateTest q i (s.setPort p u)).or (ownerTest q i (s.setPort p u)) =
    (entryStateTest q i s).or (ownerTest q i s) := rfl
  have h' : reboundKind q i (s.setPort p u) = reboundKind q i s := rfl
  simp only [h, h', stageChange_setPort]
  split
  · rfl
  · split <;> rfl

theorem opStageRetire_setPort (s : State) (p q : Port) (i : Index) (u : PortUnit)
    (hu : u.session = (s.port p).session) :
    opStageRetire q i (s.setPort p u) = carry p u (opStageRetire q i s) := by
  unfold opStageRetire
  have h : (entryStateTest q i (s.setPort p u)).or (ownerTest q i (s.setPort p u)) =
    (entryStateTest q i s).or (ownerTest q i s) := rfl
  have h' : otherClaimant q i (s.setPort p u) = otherClaimant q i s := rfl
  simp only [h, h', setPort_draft, stageNew_setPort, withdrawDefine_setPort s p q i u hu]
  split
  · rfl
  · split
    · rfl
    · split
      · split <;> rfl
      · rfl

theorem withIndexDefined_carry (p : Port) (u : PortUnit) (i : Index) (q : State × Answer) :
    withIndexDefined i (carry p u q) = carry p u (withIndexDefined i q) := by
  unfold withIndexDefined
  have h : (carry p u q).2 = q.2 := rfl
  rw [h]
  split <;> rfl

theorem opStageDefine_setPort (s : State) (p q : Port) (ps : List Byte) (u : PortUnit) :
    opStageDefine q ps (s.setPort p u) = carry p u (opStageDefine q ps s) := by
  unfold opStageDefine
  split
  · rfl
  · unfold stageDefineAt
    simp only [setPort_entry, stageNew_setPort, withIndexDefined_carry]
    split
    · rfl
    · rfl
    · split
      · split <;> rfl
      · rfl
  · unfold stageDefineAny
    have h : draftIsFull q (s.setPort p u) = draftIsFull q s := rfl
    have h' : ∀ d, allocate d (s.setPort p u) = allocate d s := fun _ => rfl
    simp only [h, h', stageNew_setPort, withIndexDefined_carry]
    split
    · rfl
    · split <;> rfl

theorem opDraftRemove_setPort (s : State) (p q : Port) (i : Index) (u : PortUnit)
    (hu : u.session = (s.port p).session) :
    opDraftRemove q i (s.setPort p u) = carry p u (opDraftRemove q i s) := by
  unfold opDraftRemove
  simp only [setPort_draft, takeOut_setPort s p q i u hu]
  split
  · rfl
  · split <;> rfl

theorem acceptRelease_setPort (s : State) (p q : Port) (post : Entries) (u : PortUnit)
    (hu : u.session = (s.port p).session) :
    acceptRelease q post (s.setPort p u) = (acceptRelease q post s).setPort p u := by
  have h : deliver (releaseDelivery q s.table.entries post (s.draft q))
      ((s.setPort p u).withTable (releasedTable q (s.draft q) post s.table)) =
      (deliver (releaseDelivery q s.table.entries post (s.draft q))
        (s.withTable (releasedTable q (s.draft q) post s.table))).setPort p u :=
    deliver_setPort (s.withTable (releasedTable q (s.draft q) post s.table)) p u _ hu
  unfold acceptRelease
  simp only [setPort_draft, setPort_table, h]
  split <;> rfl

theorem opRelease_setPort (s : State) (p q : Port) (u : PortUnit)
    (hu : u.session = (s.port p).session) :
    opRelease q (s.setPort p u) = carry p u (opRelease q s) := by
  unfold opRelease
  simp only [setPort_draft, setPort_table, acceptRelease_setPort s p q _ u hu]
  split
  · rfl
  · split
    · rfl
    · split <;> rfl

theorem opSubscribe_setPort (s : State) (p q : Port) (i : Index) (u : PortUnit) :
    opSubscribe q i (s.setPort p u) = carry p u (opSubscribe q i s) := by
  unfold opSubscribe
  simp only [setPort_entry]
  split <;> rfl

theorem subscribeLive_setPort (s : State) (p q : Port) (i : Index) (u : PortUnit) :
    subscribeLive q (s.setPort p u) i = (subscribeLive q s i).setPort p u := by
  unfold subscribeLive
  rw [setPort_entry]
  by_cases h : (s.entry i).isLive = true
  · rw [if_pos h, if_pos h]; rfl
  · rw [if_neg h, if_neg h]

theorem subscribeLive_foldl_setPort (p q : Port) (u : PortUnit) (is : List Index) (s : State) :
    is.foldl (subscribeLive q) (s.setPort p u) = (is.foldl (subscribeLive q) s).setPort p u := by
  induction is generalizing s with
  | nil => rfl
  | cons i is ih => rw [List.foldl_cons, List.foldl_cons, subscribeLive_setPort, ih]

theorem opSubscribeSlice_setPort (s : State) (p q : Port) (sl : Slice) (u : PortUnit) :
    opSubscribeSlice q sl (s.setPort p u) = carry p u (opSubscribeSlice q sl s) := by
  unfold opSubscribeSlice carry
  simp only [subscribeLive_foldl_setPort, setPort_entry]

theorem opUnsubscribe_setPort (s : State) (p q : Port) (i : Index) (u : PortUnit) :
    opUnsubscribe q i (s.setPort p u) = carry p u (opUnsubscribe q i s) := by
  unfold opUnsubscribe
  simp only [setPort_entry]
  split <;> rfl

theorem opNextChanged_setPort (s : State) (p q : Port) (u : PortUnit) :
    opNextChanged q (s.setPort p u) = carry p u (opNextChanged q s) := by
  unfold opNextChanged
  simp only [setPort_notice]
  split <;> rfl

theorem opAnchorDrop_setPort (s : State) (p q : Port) (u : PortUnit) :
    opAnchorDrop q (s.setPort p u) = carry p u (opAnchorDrop q s) := by
  unfold opAnchorDrop
  simp only [setPort_anchor]
  split <;> rfl

theorem sessionEndWork_setPort (s : State) (p q : Port) (u : PortUnit)
    (hu : u.session = (s.port p).session) :
    sessionEndWork q (s.setPort p u) = (sessionEndWork q s).setPort p u := by
  unfold sessionEndWork
  rw [emptyDraft_setPort s p q u hu]
  rfl

theorem opSessionEnd_setPort (s : State) (p q : Port) (re : Bool) (u : PortUnit)
    (hu : u.session = (s.port p).session) :
    opSessionEnd q re (s.setPort p u) = carry p u (opSessionEnd q re s) := by
  unfold opSessionEnd sessionEndPayload carry
  simp only [sessionEndWork_setPort s p q u hu]
  rfl

/-- The same, for the work of a table command. -/
def carryWork (p : Port) (u : PortUnit) (q : State × Answer × Finish) : State × Answer × Finish :=
  (q.1.setPort p u, q.2)

theorem opSaveStart_setPort (s : State) (p q : Port) (u : PortUnit) :
    opSaveStart q (s.setPort p u) = carryWork p u (opSaveStart q s) := by
  unfold opSaveStart
  have h : activeSequence (s.setPort p u) = activeSequence s := rfl
  simp only [setPort_save, h]
  split
  · rfl
  · split <;> rfl

theorem opTableWipe_setPort (s : State) (p : Port) (u : PortUnit) :
    opTableWipe (s.setPort p u) = carryWork p u (opTableWipe s) := by
  unfold opTableWipe carryWork
  have h : savePhaseEnds (s.setPort p u) = savePhaseEnds s := rfl
  simp only [h]
  split <;> rfl

theorem opTableReload_setPort (s : State) (p : Port) (u : PortUnit) :
    opTableReload (s.setPort p u) = carryWork p u (opTableReload s) := by
  by_cases h : s.save.record.state = .idle
  · simp only [opTableReload, setPort_save, h, ne_eq, not_true_eq_false, if_false]
    rfl
  · simp only [opTableReload, setPort_save, h, ne_eq, not_false_eq_true, if_true]
    rfl

/-- The work of a table command does not read the port's transaction. -/
theorem runTableCmd_setPort (s : State) (p q : Port) (c : TableCmd) (u : PortUnit)
    (hu : u.session = (s.port p).session) :
    runTableCmd q c (s.setPort p u) = carryWork p u (runTableCmd q c s) := by
  cases c with
  | sessionEnd re => simp only [runTableCmd, opSessionEnd_setPort s p q re u hu]; rfl
  | deviceStatus => rfl
  | findTag t => rfl
  | readEntry i => rfl
  | readValue i => rfl
  | readSlice sl => rfl
  | anchorSet => rfl
  | anchorDrop => simp only [runTableCmd, opAnchorDrop_setPort]; rfl
  | readAnchored i => rfl
  | stageSet i v => simp only [runTableCmd, opStageSet_setPort]; rfl
  | stageDefine ps => simp only [runTableCmd, opStageDefine_setPort]; rfl
  | stageRebound i lo hi m v => simp only [runTableCmd, opStageRebound_setPort]; rfl
  | stageRetire i => simp only [runTableCmd, opStageRetire_setPort s p q i u hu]; rfl
  | draftView k => rfl
  | draftRemove i => simp only [runTableCmd, opDraftRemove_setPort s p q i u hu]; rfl
  | draftDiscard => simp only [runTableCmd, opDraftDiscard, emptyDraft_setPort s p q u hu]; rfl
  | release => simp only [runTableCmd, opRelease_setPort s p q u hu]; rfl
  | subscribe i => simp only [runTableCmd, opSubscribe_setPort]; rfl
  | subscribeSlice sl => simp only [runTableCmd, opSubscribeSlice_setPort]; rfl
  | unsubscribe i => simp only [runTableCmd, opUnsubscribe_setPort]; rfl
  | unsubscribeAll => rfl
  | nextChanged => simp only [runTableCmd, opNextChanged_setPort]; rfl
  | saveStart => simp only [runTableCmd, opSaveStart_setPort]
  | tableWipe => simp only [runTableCmd, opTableWipe_setPort]
  | tableReload => simp only [runTableCmd, opTableReload_setPort]

/-! ### What is left for the completion -/

section
variable (l : Link) (f : Option InFlight) (rq : Bool) (rr : Option ResultRecord) (v : Bool) (n : Byte)
  (o : List Byte) (hd : Bool)

/-- A state with one port's transaction replaced. -/
def State.retouchPort (s : State) (p : Port) : State :=
  s.setPort p (retouch l f rq rr v n o hd (s.port p))

theorem finishSession_retouch (s : State) (p q : Port) (re : Bool) :
    finishSession q re (s.retouchPort l f rq rr v n o hd p) =
      (finishSession q re s).retouchPort l f rq rr v n o hd p := by
  cases re <;> cases p <;> cases q <;> rfl

theorem deliver_retouch (s : State) (p : Port) (d : Port → Delivery) :
    deliver d (s.retouchPort l f rq rr v n o hd p) = (deliver d s).retouchPort l f rq rr v n o hd p :=
  deliver_setPort s p _ d rfl

theorem advanceSave_retouch (s : State) (p : Port) :
    advanceSave (s.retouchPort l f rq rr v n o hd p) =
      (advanceSave s).retouchPort l f rq rr v n o hd p := by
  by_cases h : s.save.record.nextIndex.val < 255
  · have h' : (s.retouchPort l f rq rr v n o hd p).save.record.nextIndex.val < 255 := h
    unfold advanceSave
    rw [dif_pos h, dif_pos h']
    rfl
  · have h' : ¬ (s.retouchPort l f rq rr v n o hd p).save.record.nextIndex.val < 255 := h
    unfold advanceSave
    rw [dif_neg h, dif_neg h']
    rfl

theorem finishCopy_retouch (s : State) (p : Port) (vis : Visit) :
    finishCopy vis (s.retouchPort l f rq rr v n o hd p) =
      (finishCopy vis s).retouchPort l f rq rr v n o hd p := by
  have h : (s.retouchPort l f rq rr v n o hd p).save = s.save := rfl
  by_cases he : s.save.record.endPending.isSome = true
  · simp only [finishCopy, h, he, if_true]
  · simp only [finishCopy, h, he, advanceSave_retouch]
    cases vis <;> rfl

theorem finishWipe_retouch (s : State) (p : Port) (ends : Bool) :
    finishWipe ends (s.retouchPort l f rq rr v n o hd p) =
      (finishWipe ends s).retouchPort l f rq rr v n o hd p := by
  cases ends
  · exact deliver_retouch l f rq rr v n o hd s p _
  · exact deliver_retouch l f rq rr v n o hd
      (s.withSave { s.save with
        record := { s.save.record with
          state := .idle, endPending := none, lastOutcome := some .aborted }
        work := .none
        request := none }) p _

/-- What is left for a completion reads no port's transaction. -/
theorem runFinish_retouch (s : State) (p : Port) (fin : Finish) :
    runFinish fin (s.retouchPort l f rq rr v n o hd p) =
      (runFinish fin s).retouchPort l f rq rr v n o hd p := by
  cases fin with
  | plain => rfl
  | session q re => exact finishSession_retouch l f rq rr v n o hd s p q re
  | wipe ends => exact finishWipe_retouch l f rq rr v n o hd s p ends
  | reload => exact deliver_retouch l f rq rr v n o hd (s.withSave { s.save with device := .ready }) p _
  | saveStart q gs => rfl
  | copy vis => exact finishCopy_retouch l f rq rr v n o hd s p vis
  | saveEnd =>
    exact deliver_retouch l f rq rr v n o hd
      (s.withRecord { s.save.record with
        state := .idle, lastOutcome := s.save.record.endPending, endPending := none }) p _

end

/-! ### The arbiter is not read by any work -/

theorem runFinish_withArbiter (s : State) (a : Arbiter) (fin : Finish) :
    runFinish fin (s.withArbiter a) = (runFinish fin s).withArbiter a := by
  cases fin with
  | plain => rfl
  | session q re => cases re <;> cases q <;> rfl
  | wipe ends => cases ends <;> rfl
  | reload => rfl
  | saveStart q gs => rfl
  | copy vis =>
    by_cases he : s.save.record.endPending.isSome = true
    · simp only [runFinish, finishCopy, withArbiter_save, he, if_true]
    · by_cases hn : s.save.record.nextIndex.val < 255 <;>
        cases vis <;> simp [runFinish, finishCopy, advanceSave, he, hn] <;> rfl
  | saveEnd => rfl

/-! ### A command answered at the take -/

/-- The state once a transaction has ended with a command that its port takes, the sequence number not
yet advanced. -/
def endedState (p : Port) (k : Nat) (s : State) : State :=
  s.setPort p { s.port p with
    link := .idle
    sdo := driven (s.port p) (sentByte p s :: List.replicate k 0)
    sdoHeld := false }

theorem setPort_setPort (s : State) (p : Port) (u w : PortUnit) :
    (s.setPort p u).setPort p w = s.setPort p w := by
  simp [State.setPort, State.withPorts]

theorem judge_congr {s t : State} {p : Port} (h1 : t.save = s.save)
    (h2 : (t.port p).session = (s.port p).session) (h3 : (t.port p).win0 = (s.port p).win0)
    (h4 : (t.port p).win1 = (s.port p).win1) (o : Option Opcode) (ps : List Byte) :
    judge t p o ps = judge s p o ps := by
  have hc : ∀ o, commandPath (t.port p) o ps = commandPath (s.port p) o ps := by
    intro o
    cases o <;> simp only [commandPath, handlePath, h2, h3, h4]
  cases o with
  | none => simp only [judge, h1]
  | some o => simp only [judge, h1, h2, hc]

/-- A command transaction on a port that takes is its take, on the state with the transaction ended. -/
theorem commandTransaction_takes {p : Port} {s : State} (h : takes p s = true) (b : Byte)
    (o : Option Opcode) (ps : List Byte) :
    commandTransaction p b o ps s = takeCommand p b o ps (endedState p ps.length s) := by
  simp only [takes, Bool.and_eq_true, Option.isNone_iff_eq_none] at h
  obtain ⟨⟨hr, hl⟩, hu⟩ := h
  cases hk : (s.port p).link with
  | idle =>
    simp [commandTransaction, beginTransaction, hk, hr, endTransaction, shiftBytes, capture,
      setPort_setPort, hu, endedState, sentByte, driven]
  | selected c =>
    simp [commandTransaction, beginTransaction, hk, hr, endTransaction, shiftBytes, setPort_setPort, hu,
      endedState, sentByte]
  | answering => simp [hk, linkOpen] at hl
  | ignored => simp [hk, linkOpen] at hl

theorem seenRecord_setPort (s : State) (p : Port) (u : PortUnit) :
    seenRecord (s.setPort p u) = seenRecord s := rfl

/-- A command answered at the take reads nothing of its port's transaction. -/
theorem runPortCmd_retouch (l : Link) (f : Option InFlight) (rq : Bool) (rr : Option ResultRecord)
    (v : Bool) (n : Byte) (o : List Byte) (hd : Bool) (s : State) (p : Port)
    (c : PortCmd) :
    runPortCmd p c (s.retouchPort l f rq rr v n o hd p) =
      ((runPortCmd p c s).1.retouchPort l f rq rr v n o hd p, (runPortCmd p c s).2) := by
  cases c with
  | attachFresh => cases p <;> rfl
  | setLifetimes d a => rfl
  | setWindows w0 w1 => cases p <;> rfl
  | notice c => rfl
  | saveStatus => rfl
  | saveAbort =>
    have hs : seenRecord (s.retouchPort l f rq rr v n o hd p) = seenRecord s := rfl
    simp only [runPortCmd, portSaveAbort, hs]
    by_cases h1 : (seenRecord s).state = .idle
    · simp only [h1, if_true]
    · by_cases h2 : (seenRecord s).starter ≠ some p ∧ p ≠ .P0
      · rw [if_neg h1, if_neg h1, if_pos h2, if_pos h2]
      · by_cases h3 : (seenRecord s).endPending.isSome ∨ (seenRecord s).state = .closing
        · rw [if_neg h1, if_neg h1, if_neg h2, if_neg h2, if_pos h3, if_pos h3]
        · rw [if_neg h1, if_neg h1, if_neg h2, if_neg h2, if_neg h3, if_neg h3]
          rfl

theorem judge_ended (p : Port) (k : Nat) (s : State) (o : Option Opcode) (ps : List Byte) :
    judge (endedState p k s) p o ps = judge s p o ps :=
  judge_congr (s := s) (t := endedState p k s) rfl (by simp [endedState]) (by simp [endedState]) (by simp [endedState]) o ps

/-- A refused command changes only its port's record, sequence number and link (R159, R160). -/
theorem take_refused {p : Port} {s : State} {o : Option Opcode} {ps : List Byte} {a : Answer}
    (b : Byte) (hj : judge s p o ps = .refused a) :
    takeCommand p b o ps (endedState p ps.length s) =
      answeredState p b ps.length a (sentByte p s)
        (s.setPort p { s.port p with unit := none }) := by
  unfold takeCommand
  rw [judge_ended, hj]
  simp only [writeResult, endedState, answeredState, driven, setPort_port, setPort_setPort]

/-- A command answered at the take does not touch its port's sequence number, request or SDO hold. -/
theorem runPortCmd_port (p : Port) (c : PortCmd) (s : State) :
    ((runPortCmd p c s).1.port p).seq = (s.port p).seq ∧
      ((runPortCmd p c s).1.port p).request = (s.port p).request ∧
      ((runPortCmd p c s).1.port p).sdoHeld = (s.port p).sdoHeld := by
  cases c with
  | attachFresh => simp [runPortCmd, freshSession, defaultSettings, setLives]
  | setLifetimes d a => exact ⟨rfl, rfl, rfl⟩
  | setWindows w0 w1 => simp [runPortCmd, portSetWindows]
  | notice c => simp [runPortCmd, portNotice]
  | saveStatus => exact ⟨rfl, rfl, rfl⟩
  | saveAbort =>
    simp only [runPortCmd, portSaveAbort]
    by_cases h1 : (seenRecord s).state = .idle
    · rw [if_pos h1]; exact ⟨rfl, rfl, rfl⟩
    · by_cases h2 : (seenRecord s).starter ≠ some p ∧ p ≠ .P0
      · rw [if_neg h1, if_pos h2]; exact ⟨rfl, rfl, rfl⟩
      · by_cases h3 : (seenRecord s).endPending.isSome ∨ (seenRecord s).state = .closing
        · rw [if_neg h1, if_neg h2, if_pos h3]; exact ⟨rfl, rfl, rfl⟩
        · rw [if_neg h1, if_neg h2, if_neg h3]; exact ⟨rfl, rfl, rfl⟩

/-- A command of the first two paths of R161 is performed and answered at its take. -/
theorem take_atTake {p : Port} {s : State} {o : Option Opcode} {ps : List Byte} {c : PortCmd}
    (b : Byte) (hj : judge s p o ps = .atTake c) :
    takeCommand p b o ps (endedState p ps.length s) =
      answeredState p b ps.length (runPortCmd p c s).2 (sentByte p s) (runPortCmd p c s).1 := by
  have hp := runPortCmd_port p c s
  have ht : (endedState p ps.length s).setPort p
      { (endedState p ps.length s).port p with
        seq := ((endedState p ps.length s).port p).seq + 1, resultValid := false } =
      s.retouchPort .idle (s.port p).unit (s.port p).request (s.port p).result false
        ((s.port p).seq + 1) (driven (s.port p) (sentByte p s :: List.replicate ps.length 0)) false p := by
    simp only [endedState, setPort_port, setPort_setPort, State.retouchPort, retouch]
  have hq : ((endedState p ps.length s).port p).seq = (s.port p).seq := by simp [endedState]
  unfold takeCommand
  rw [judge_ended, hj]
  simp only [ht, runPortCmd_retouch]
  simp only [writeResult, State.retouchPort, retouch, setPort_port, setPort_setPort, answeredState,
    driven, hp, hq]

/-- The row of a named command is its transaction (R196). -/
theorem exec_rowOf (o : Opcode) (p : Port) (ps : List Byte) (s : State) :
    exec (rowOf o p ps) s = .next (commandTransaction p (opcodeByte o) (some o) ps s) := by
  cases o <;> rfl

/-- What a refused named command leaves. -/
theorem exec_refused {o : Opcode} {p : Port} {ps : List Byte} {s : State} {a : Answer}
    (ht : takes p s = true) (hj : judge s p (some o) ps = .refused a) :
    exec (rowOf o p ps) s =
      .next (answeredState p (opcodeByte o) ps.length a (sentByte p s) s) := by
  have hu : (s.port p).unit = none := by
    simp only [takes, Bool.and_eq_true, Option.isNone_iff_eq_none] at ht
    exact ht.2
  have hs : s.setPort p { s.port p with unit := none } = s := by
    rw [← hu]
    cases p <;> rfl
  rw [exec_rowOf, commandTransaction_takes ht, take_refused _ hj, hs]

/-- What a named command of the first two paths of R161 leaves. -/
theorem exec_atTake {o : Opcode} {p : Port} {ps : List Byte} {s : State} {c : PortCmd}
    (ht : takes p s = true) (hj : judge s p (some o) ps = .atTake c) :
    exec (rowOf o p ps) s =
      .next (answeredState p (opcodeByte o) ps.length (runPortCmd p c s).2 (sentByte p s)
        (runPortCmd p c s).1) := by
  rw [exec_rowOf, commandTransaction_takes ht, take_atTake _ hj]

/-- What the transaction of a table command leaves: the command in flight and its request (R161). -/
theorem exec_table {o : Opcode} {p : Port} {ps : List Byte} {s : State} {c : TableCmd}
    {res : Option Index} (ht : takes p s = true) (hj : judge s p (some o) ps = .table c res) :
    exec (rowOf o p ps) s = .next (waitingState p (opcodeByte o) ps c res (sentByte p s) s) := by
  rw [exec_rowOf, commandTransaction_takes ht]
  unfold takeCommand
  rw [judge_ended, hj]
  simp only [endedState, setPort_port, setPort_setPort, waitingState]

/-! ### A table command served whole -/

/-- The only requester holding a request is granted, wherever the search starts (R21). -/
theorem find_only {r start : Requester} {f : Requester → Bool} (hr : f r = true)
    (hne : ∀ x, x ≠ r → f x = false) : (searchOrder start).find? f = some r := by
  have hmem : r ∈ searchOrder start := by
    cases start with
    | pu p => cases p <;> cases r <;> first | decide | (rename_i q; cases q <;> decide)
    | timer => cases r <;> first | decide | (rename_i q; cases q <;> decide)
    | save => cases r <;> first | decide | (rename_i q; cases q <;> decide)
  cases h : (searchOrder start).find? f with
  | none => exact absurd hr (by simpa using List.find?_eq_none.mp h r hmem)
  | some x =>
    have hx := List.find?_some h
    by_cases hxr : x = r
    · rw [hxr]
    · rw [hne x hxr] at hx; exact absurd hx (by decide)

theorem quiet_takes {p : Port} {s : State} (h : quiet p s = true) : takes p s = true := by
  simp only [quiet, takesAttached, Bool.and_eq_true] at h
  exact h.1.1.1

theorem quiet_link {p : Port} {s : State} (h : quiet p s = true) : quietLink p s = true := by
  simp only [quiet, takesAttached, quietLink, Bool.and_eq_true] at h ⊢
  exact ⟨h.1.1, h.2⟩

theorem quiet_holds {s : State} (h : arbiterQuiet s = true) :
    s.arbiter.op = none ∧ ∀ r, holdsRequest s r = false := by
  simp only [arbiterQuiet, requesterRing, List.all_cons, List.all_nil, Bool.and_eq_true,
    Bool.not_eq_eq_eq_not, Bool.not_true, Option.isNone_iff_eq_none] at h
  obtain ⟨ho, h0, h1, h2, h3, ht, hs, -⟩ := h
  refine ⟨ho, fun r => ?_⟩
  cases r with
  | pu q => cases q <;> assumption
  | timer => exact ht
  | save => exact hs

theorem waiting_nextGrant {p : Port} {s : State} (hq : quietLink p s = true) (o : Opcode)
    (ps : List Byte) (c : TableCmd) (res : Option Index) :
    nextGrant (waitingState p (opcodeByte o) ps c res (sentByte p s) s) = some (.pu p) := by
  simp only [quietLink, Bool.and_eq_true] at hq
  obtain ⟨⟨ht, hst⟩, ha⟩ := hq
  obtain ⟨ho, hr⟩ := quiet_holds ha
  simp only [takes, Bool.and_eq_true] at ht
  have hg : mayGrant (waitingState p (opcodeByte o) ps c res (sentByte p s) s) = true := by
    have h1 : (waitingState p (opcodeByte o) ps c res (sentByte p s) s).nreset = s.nreset := rfl
    have h2 : (waitingState p (opcodeByte o) ps c res (sentByte p s) s).save = s.save := rfl
    have h3 : (waitingState p (opcodeByte o) ps c res (sentByte p s) s).arbiter = s.arbiter := rfl
    simp only [mayGrant, h1, h2, h3, ht.1.1, ho]
    simpa using hst
  rw [nextGrant, if_pos hg]
  refine find_only (by simp [holdsRequest, waitingState]) fun x hx => ?_
  cases x with
  | pu q =>
    have hqp : q ≠ p := fun e => hx (by rw [e])
    have := hr (.pu q)
    simpa [holdsRequest, waitingState, setPort_port_ne _ _ _ _ hqp] using this
  | timer => exact hr .timer
  | save => exact hr .save

theorem stageNew_ports (s : State) (q : Port) (i : Index) (ch : Change) :
    (stageNew q i ch s).1.ports = s.ports := by
  unfold stageNew
  split <;> rfl

theorem stageChange_ports (s : State) (q : Port) (i : Index) (m : Change → Option Change)
    (ch : Change) : (stageChange q i m ch s).1.ports = s.ports := by
  unfold stageChange
  split
  · rfl
  · split
    · split <;> rfl
    · exact stageNew_ports s q i ch

theorem withIndexDefined_state (i : Index) (w : State × Answer) : (withIndexDefined i w).1 = w.1 := by
  unfold withIndexDefined
  split <;> rfl

theorem opStageDefine_ports (s : State) (q : Port) (ps : List Byte) :
    (opStageDefine q ps s).1.ports = s.ports := by
  unfold opStageDefine
  split
  · rfl
  · unfold stageDefineAt
    split
    · rfl
    · rfl
    · split
      · split <;> rfl
      · rw [withIndexDefined_state]; exact stageNew_ports s q _ _
  · unfold stageDefineAny
    split
    · rfl
    · split
      · rw [withIndexDefined_state]; exact stageNew_ports s q _ _
      · rfl

theorem withdrawDefine_ports (s : State) (q : Port) (i : Index) :
    (withdrawDefine q i s).1.ports = s.ports := by
  unfold withdrawDefine
  cases h : (removeItem (s.draft q) i).isEmpty <;> simp only [h] <;> rfl

theorem opStageRetire_ports (s : State) (q : Port) (i : Index) :
    (opStageRetire q i s).1.ports = s.ports := by
  unfold opStageRetire
  split
  · rfl
  · split
    · rfl
    · split
      · split
        · exact withdrawDefine_ports s q i
        · rfl
      · exact stageNew_ports s q i _

theorem opDraftRemove_ports (s : State) (q : Port) (i : Index) :
    (opDraftRemove q i s).1.ports = s.ports := by
  unfold opDraftRemove
  split
  · rfl
  · cases h : (removeItem (s.draft q) i).isEmpty <;> simp only [h] <;> rfl

theorem acceptRelease_ports (s : State) (q : Port) (post : Entries) :
    (acceptRelease q post s).ports = s.ports := by
  unfold acceptRelease
  cases h : (s.draft q).any Item.isRetire <;> simp only [h] <;> rfl

theorem opRelease_ports (s : State) (q : Port) : (opRelease q s).1.ports = s.ports := by
  unfold opRelease
  simp only []
  split
  · rfl
  · split
    · rfl
    · split
      · rfl
      · exact acceptRelease_ports s q _

theorem subscribeLive_ports (q : Port) (is : List Index) (t : State) :
    (is.foldl (subscribeLive q) t).ports = t.ports := by
  induction is generalizing t with
  | nil => rfl
  | cons i is ih =>
    rw [List.foldl_cons, ih]
    unfold subscribeLive
    by_cases hl : (t.entry i).isLive = true
    · rw [if_pos hl]; rfl
    · rw [if_neg hl]

theorem opTableReload_ports (s : State) : (opTableReload s).1.ports = s.ports := by
  by_cases h : s.save.record.state = .idle
  · simp only [opTableReload, h, ne_eq, not_true_eq_false, if_false]; rfl
  · simp only [opTableReload, h, ne_eq, not_false_eq_true, if_true]

theorem opSessionEnd_ports (s : State) (q : Port) (re : Bool) :
    (opSessionEnd q re s).1.ports = s.ports := by
  simp only [opSessionEnd, vacateTest, withEntries_ports, sessionEndWork, setNotice_ports,
    stopAnchor, stopDraft, setAnchorCount, setDraftCount, withTimer_ports, dropWaiter,
    dropSubscriber, setAnchor_ports, emptyDraft, setDraft_ports, endClaims, deliverFlag, deliver,
    withNotices_ports]

/-- The work of a table command at its grant touches no port. -/
theorem runTableCmd_ports (s : State) (q : Port) (c : TableCmd) :
    (runTableCmd q c s).1.ports = s.ports := by
  cases c with
  | sessionEnd re => exact opSessionEnd_ports s q re
  | deviceStatus => rfl
  | findTag t => rfl
  | readEntry i => rfl
  | readValue i => rfl
  | readSlice sl => rfl
  | anchorSet => rfl
  | anchorDrop => simp only [runTableCmd, opAnchorDrop]; split <;> rfl
  | readAnchored i => rfl
  | stageSet i v =>
    simp only [runTableCmd, opStageSet]
    split
    · rfl
    · exact stageChange_ports s q i _ _
  | stageDefine ps => exact opStageDefine_ports s q ps
  | stageRebound i lo hi m v =>
    simp only [runTableCmd, opStageRebound]
    split
    · rfl
    · split
      · rfl
      · exact stageChange_ports s q i _ _
  | stageRetire i => exact opStageRetire_ports s q i
  | draftView k => rfl
  | draftRemove i => exact opDraftRemove_ports s q i
  | draftDiscard => rfl
  | release => exact opRelease_ports s q
  | subscribe i => simp only [runTableCmd, opSubscribe]; split <;> rfl
  | subscribeSlice sl => exact subscribeLive_ports q _ s
  | unsubscribe i => simp only [runTableCmd, opUnsubscribe]; split <;> rfl
  | unsubscribeAll => rfl
  | nextChanged => simp only [runTableCmd, opNextChanged]; split <;> rfl
  | saveStart =>
    simp only [runTableCmd, opSaveStart]
    split
    · rfl
    · split <;> rfl
  | tableWipe =>
    simp only [runTableCmd, opTableWipe]
    by_cases h : savePhaseEnds s = true
    · rw [if_pos h]; rfl
    · rw [if_neg h]; rfl
  | tableReload => exact opTableReload_ports s

/-- What is left for a completion keeps every port's sequence number, request, command unit and SDO hold. -/
theorem runFinish_port (s : State) (p : Port) (fin : Finish) :
    ((runFinish fin s).port p).seq = (s.port p).seq ∧
      ((runFinish fin s).port p).request = (s.port p).request ∧
      ((runFinish fin s).port p).unit = (s.port p).unit ∧
      ((runFinish fin s).port p).sdoHeld = (s.port p).sdoHeld := by
  cases fin with
  | plain => exact ⟨rfl, rfl, rfl, rfl⟩
  | session q re => cases re <;> cases q <;> cases p <;> exact ⟨rfl, rfl, rfl, rfl⟩
  | wipe ends => cases ends <;> exact ⟨rfl, rfl, rfl, rfl⟩
  | reload => exact ⟨rfl, rfl, rfl, rfl⟩
  | saveStart q gs => exact ⟨rfl, rfl, rfl, rfl⟩
  | copy vis =>
    by_cases he : s.save.record.endPending.isSome = true
    · simp [runFinish, finishCopy, he]
    · by_cases hn : s.save.record.nextIndex.val < 255 <;>
        cases vis <;> simp [runFinish, finishCopy, advanceSave, decideOutcome, he, hn]
  | saveEnd => exact ⟨rfl, rfl, rfl, rfl⟩

/-- A table command's work at its grant and what is left for its completion, together. -/
def finished (p : Port) (c : TableCmd) (s : State) : State :=
  runFinish (runTableCmd p c s).2.2 (runTableCmd p c s).1

/-- A table command served whole: its work on the state, what is left for its completion, and its answer
in the port (R20, R161, R162). -/
theorem served_table {o : Opcode} {p : Port} {ps : List Byte} {s : State} {c : TableCmd}
    {res : Option Index} (hq : quietLink p s = true)
    (hj : judge s p (some o) ps = .table c res) :
    served (rowOf o p ps) s =
      .next (servedState p (opcodeByte o) ps.length (withHandle res (runTableCmd p c s).2.1)
        (sentByte p s) (finished p c s)) := by
  have ht : takes p s = true := by
    simp only [quietLink, Bool.and_eq_true] at hq; exact hq.1.1
  have hr0 : (s.port p).request = false := by
    simp only [quietLink, Bool.and_eq_true] at hq
    exact (quiet_holds hq.2).2 (.pu p)
  have hgrant : exec .tableOperationGrant (waitingState p (opcodeByte o) ps c res (sentByte p s) s) =
      .next (grantPort p (waitingState p (opcodeByte o) ps c res (sentByte p s) s)) := by
    show Host.Outcome.next (grantNext _) = _
    rw [grantNext, waiting_nextGrant hq]
  have hport : (runTableCmd p c s).1.port p = s.port p := by
    unfold State.port; rw [runTableCmd_ports]
  have hw : runTableCmd p c (s.setPort p (retouch .idle
        (some { opcode := opcodeByte o, seq := (s.port p).seq + 1, params := ps, cmd := c,
                resolved := res })
        false (s.port p).result false ((s.port p).seq + 1)
        (driven (s.port p) (sentByte p s :: List.replicate ps.length 0)) false (s.port p))) =
      carryWork p _ (runTableCmd p c s) := runTableCmd_setPort s p p c _ rfl
  have hfin := runFinish_port (runTableCmd p c s).1 p (runTableCmd p c s).2.2
  rw [hport] at hfin
  simp only [served, runRows, exec_table ht hj, hgrant]
  show Host.Outcome.next (completeOperation _) = _
  congr 1
  simp only [grantPort, waitingState, setPort_port, setPort_setPort]
  simp only [retouch, driven] at hw ⊢
  rw [hw]
  simp only [carryWork, beginOperation, completeOperation, withArbiter_arbiter]
  have hre : ∀ (A B : Arbiter) (u : PortUnit),
      (((runTableCmd p c s).1.setPort p u).withArbiter A).withArbiter B =
        ((runTableCmd p c s).1.setPort p u).withArbiter B := fun _ _ _ => rfl
  rw [hre, runFinish_withArbiter]
  have hr := runFinish_retouch .idle
    (some { opcode := opcodeByte o, seq := (s.port p).seq + 1, params := ps, cmd := c,
            resolved := res })
    false (s.port p).result false ((s.port p).seq + 1)
    (driven (s.port p) (sentByte p s :: List.replicate ps.length 0)) false (runTableCmd p c s).1 p
    (runTableCmd p c s).2.2
  simp only [State.retouchPort, retouch, driven, hport] at hr
  rw [hr]
  simp only [handBack, withArbiter_port, setPort_port, writeResult, servedState, answeredState,
    finished, driven, hfin, hr0]
  have hc : ∀ (r : State) (A : Arbiter) (u w : PortUnit),
      ((r.setPort p u).withArbiter A).setPort p w = (r.setPort p w).withArbiter A :=
    fun r A u w => congrArg (fun t => State.withArbiter t A) (setPort_setPort r p u w)
  rw [hc]

end Sys2Proof.Machine
end

