-- ==== Sys2Proof/WellFormed.lean ====
section
/-! DEFINITION. When a term of `Instr` is the row it is named for: an UNKNOWN_OPCODE row carries an
opcode that is neither a command's nor a port read's, a COMMAND_DISCARD row one that is no port
read's (R152). A command of a wrong length is a legal transaction (R159), so nothing else is asked. -/

namespace Sys2Proof

/-- The term is the row it is named for (R152, R157). -/
def Instr.wellFormed : Instr → Bool
  | .unknownOpcode _ b _ => (opcodeOf b).isNone && !isPortRead b
  | .commandDiscard _ b _ => !isPortRead b
  | .ncsFall _ => true
  | .readStatus _ _ => true
  | .readResult _ _ => true
  | .attach _ _ => true
  | .detach _ _ => true
  | .sessionEnd _ => true
  | .setLifetimes _ _ => true
  | .setWindows _ _ => true
  | .getDeviceStatus _ _ => true
  | .findTag _ _ => true
  | .readEntry _ _ => true
  | .readValue _ _ => true
  | .readSlice _ _ => true
  | .readHandle _ _ => true
  | .anchorSet _ _ => true
  | .anchorDrop _ _ => true
  | .readAnchored _ _ => true
  | .readAnchoredHandle _ _ => true
  | .stageSet _ _ => true
  | .stageSetHandle _ _ => true
  | .stageDefine _ _ => true
  | .stageRebound _ _ => true
  | .stageRetire _ _ => true
  | .draftView _ _ => true
  | .draftRemove _ _ => true
  | .draftDiscard _ _ => true
  | .release _ _ => true
  | .subscribe _ _ => true
  | .subscribeSlice _ _ => true
  | .unsubscribe _ _ => true
  | .unsubscribeAll _ _ => true
  | .nextChanged _ _ => true
  | .setNoticeEnables _ _ => true
  | .gateOn _ _ => true
  | .gateOff _ _ => true
  | .takeNotices _ _ => true
  | .noticeRearm _ _ => true
  | .noticeDone _ _ => true
  | .noticeClear _ _ => true
  | .saveStart _ _ => true
  | .saveAbort _ _ => true
  | .saveStatus _ _ => true
  | .tableWipe _ _ => true
  | .tableReload _ _ => true
  | .tableOperationGrant => true
  | .timeBaseStep => true
  | .draftCountdownElapsed _ => true
  | .anchorCountdownElapsed _ => true
  | .draftExpiry _ => true
  | .anchorExpiry _ => true
  | .saveEraseComplete _ => true
  | .saveCopy => true
  | .recordProgramComplete _ => true
  | .headerWriteComplete _ => true
  | .headerReeraseComplete _ => true
  | .saveEnd => true
  | .nresetFall => true
  | .nresetRise => true
  | .startupLoad => true
  | .tableOperationCompletion => true
  | .transactionEnd _ => true

end Sys2Proof
end

