-- ==== Sys2Proof/Tests/Slice0.lean ====
section
/-! SUPPORT. Own tests: the smoke of WellFormed, the opcode bytes, one step or one served command at a time
with the spec's own numbers, and, for every statement with hypotheses, a state that meets them. -/

namespace Sys2Proof.Tests

open Sys2Proof Sys2Proof.Machine

set_option maxRecDepth 20000

/-! ### Small states -/

/-- READY, every port attached, an empty table. -/
def bootState : State :=
  { State.reset with
    save := { resetSave with device := .ready, startup := false }
    ports := .make fun _ => { resetPort .idle with session := .attached } }

/-- A LIVE record owned by P0, written by P0 and P1, subscribed to by P1. -/
def rec0 : Rec :=
  { tag := 300, kind := .unsigned, policy := .clamp, retain := true, low := 0, high := 800,
    value := 800, changedGen := 1, prior := none, bornGen := 1, owner := .P0,
    writeSet := ⟨true, true, false, false⟩, subscribers := ⟨false, true, false, false⟩,
    coupling := none }

/-- The same record changed once. -/
def rec1 : Rec := { rec0 with changedGen := 5, prior := some { value := 700, gen := 3 } }

/-- Entry 3 with a content, a claim and waiters, P0's draft, and G. -/
def stateOf (c : Content) (cl : Option Port) (w : PortSet) (d : List Item) (g : Gen) : State :=
  bootState.withTable { resetTable with
    entries := resetTable.entries.set 3 { content := c, claim := cl, waiters := w }
    tagIndex := (match c with | .live r => [(r.tag, 3)] | _ => [])
    drafts := ⟨d, [], [], []⟩
    g := g }

def setItem : Item := { index := 3, change := .set 900 }

def sampleDefinition : Definition :=
  { tag := 300, kind := .unsigned, policy := .refuse, retain := true, low := 0, high := 800,
    value := 800, writeSet := ⟨true, false, false, false⟩, coupling := none }

def defItem : Item := { index := 3, change := .define sampleDefinition }

/-- The 19 parameter bytes of a `stage_define` of tag 300 at entry 3, or by allocation. -/
def defBytes (mode : Byte) : List Byte :=
  [mode, 3, 1, 44, 0, 1, 1, 0, 0, 3, 32, 3, 32, 1, 0, 0, 0, 0, 0]

def liveState : State := stateOf (.live rec0) none noPorts [] 1
def draftState : State := stateOf (.live rec0) (some .P0) ⟨false, true, false, false⟩ [setItem] 1
def otherState : State := stateOf (.live rec0) (some .P1) noPorts [] 1
def retiredState : State := stateOf (.retired rec1 5) none noPorts [] 5
def definedState : State := stateOf .vacant (some .P0) noPorts [defItem] 1

/-- A state with a Notice Unit of P0 replaced. -/
def noticeState (flags enables : NoticeFlags) (g : Gate) : State :=
  bootState.setNotice .P0 { flags := flags, enables := enables, gate := g, changed := [3, 7] }

/-- A state with the Save Engine in a phase, its target bank A. -/
def saveState (st : SaveState) (w : StoreWork) (rq : Option SaveRequest) (e : Option SaveOutcome) : State :=
  bootState.withSave { bootState.save with
    record := { resetRecord with
      state := st, starter := some .P1, target := some .A, gs := some 0, endPending := e }
    work := w
    request := rq }

/-- Items for entries 100 on: a draft of a chosen length. -/
def itemsFrom100 (n : Nat) : List Item :=
  (List.range n).map fun k => { index := Fin.ofNat 256 (100 + k), change := .retire }

/-- A table of a few entries, the others VACANT. -/
def entriesOf (l : List (Nat × Content)) : Entries :=
  l.foldl (fun t q => t.setIfInBounds q.1 { content := q.2, claim := none, waiters := noPorts })
    resetTable.entries

/-- One port DETACHED. -/
def detachedState : State := bootState.setPort .P1 { bootState.port .P1 with session := .detached }

/-- P0's nCS has fallen. -/
def selectedState : State :=
  bootState.setPort .P0 { bootState.port .P0 with link := .selected (capture bootState .P0) }

def inFlight (c : TableCmd) : InFlight :=
  { opcode := 0x22, seq := 1, params := [3], cmd := c, resolved := none }

/-- P0 is EXECUTING and holds a request. -/
def busyState (c : TableCmd) (l : Link) : State :=
  liveState.setPort .P0 { liveState.port .P0 with link := l, unit := some (inFlight c), request := true }

/-- An operation in progress. -/
def opState (r : Requester) (a : Option Answer) (f : Finish) (seen : Option SaveRecord) (s : State) :
    State :=
  s.withArbiter
    { searchStart := .pu .P0, op := some { requester := r, answer := a, finish := f, saveSeen := seen } }

/-- Countdowns and pending expiries. -/
def timerState (d a : Countdown) (e : List (List Expiry)) (s : State) : State :=
  s.withTimer { s.timer with draftCount := s.timer.draftCount.set .P0 d
                             anchorCount := s.timer.anchorCount.set .P0 a
                             expiries := e }

def sampleRecord : RetainedRecord :=
  { index := 3, tag := 300, kind := .unsigned, policy := .clamp, low := 0, high := 800, value := 800,
    owner := .P0, writeSet := ⟨true, false, false, false⟩, coupling := none }

/-- The answer in a port's result record after rows that all have a next state. -/
def answerAfter (p : Port) (o : Host.Outcome State Fault Refusal) : Option Answer :=
  match o with
  | .next t => (t.port p).result.map ResultRecord.answer
  | _ => none

/-- A fact of the state after an outcome. -/
def holdsAfter (f : State → Bool) (o : Host.Outcome State Fault Refusal) : Bool :=
  match o with
  | .next t => f t
  | _ => false

/-! ### WellFormed and the opcode table -/

/-- The opcode 0x30 names `stage_set` (R196): no UNKNOWN_OPCODE row carries it. -/
theorem test_wf_unknown_opcode : (Instr.unknownOpcode .P0 0x30 []).wellFormed = false := by decide

/-- The opcode 0x01 is a port read (R196): no COMMAND_DISCARD row carries it. -/
theorem test_wf_command_discard : (Instr.commandDiscard .P0 0x01 []).wellFormed = false := by decide

theorem test_wf_accepts : (Instr.unknownOpcode .P0 0x00 []).wellFormed = true ∧
    (Instr.commandDiscard .P0 0x00 []).wellFormed = true := by decide

/-- R196: no two commands share an opcode byte, and each byte leads back to its command. -/
theorem test_opcodes : (allOpcodes.map opcodeByte).Nodup ∧
    allOpcodes.all (fun o => opcodeOf (opcodeByte o) == some o) = true ∧ allOpcodes.length = 40 := by
  decide

/-- R196: some bytes and counts as the table prints them. -/
theorem test_opcode_bytes : opcodeOf 0x2B = some .readAnchoredHandle ∧ opcodeOf 0x33 = some .stageRebound ∧
    expectedCount .stageDefine = 20 ∧ expectedCount .stageRebound = 9 ∧ opcodeOf 0x03 = none := by decide

/-! ### One command or one event, with the spec's own numbers -/

/-- R198: attached, idle, a valid result and nothing pending is 0x52. -/
theorem test_status_byte :
    statusByte (bootState.setPort .P0 { bootState.port .P0 with resultValid := true }) .P0 = 0x52 := by
  decide

/-- R33: with WIN0 = 3 and WIN1 = 12, handle 2 names entry 26 and handle 9 entry 97. -/
theorem test_handles : resolveHandle 3 12 2 = 26 ∧ resolveHandle 3 12 9 = 97 := by decide

/-- R31: `set_windows(4, 40)` is BAD_PARAM with the windows in force. -/
theorem test_windows_refused : answerAfter .P1 (exec (.setWindows .P1 [4, 40]) bootState) =
    some { status := .badParam, payload := [0, 1] } := by decide

/-- R159: a LENGTH refusal answers the expected and the received count. -/
theorem test_length : answerAfter .P0 (exec (.readEntry .P0 []) bootState) =
    some { status := .length, payload := [2, 1] } := by decide

/-- R159: NOT_SUPERVISOR on P1. -/
theorem test_not_supervisor : answerAfter .P1 (exec (.tableWipe .P1 []) bootState) =
    some { status := .notSupervisor, payload := [] } := by decide

/-- R2: for a SIGNED entry 0xFFFF is below 1, for an UNSIGNED one above. -/
theorem test_kinds : leIn .signed 0xFFFF 1 = true ∧ leIn .unsigned 0xFFFF 1 = false := by decide

/-- R10: for SIGNED entries −32768 and 32767 are 65535 apart. -/
theorem test_within : relationHolds ⟨0, .within, 65535⟩ .signed 0x8000 0x7FFF = true ∧
    relationHolds ⟨0, .within, 65534⟩ .signed 0x8000 0x7FFF = false := by decide

/-- R92: a SET to 900 with bounds 0 to 800 and current value 800 is clamped to 800, counts as clamped and
changes nothing: OK with G 1, changed 0, clamped 1, entry 3. -/
theorem test_release_clamped : answerAfter .P0 (served (.release .P0 []) draftState) =
    some { status := .ok, payload := [0, 0, 0, 1, 0, 1, 1, 3] } := by decide

/-- R88: a release of an empty draft. -/
theorem test_release_empty : answerAfter .P0 (served (.release .P0 []) liveState) =
    some { status := .noDraft, payload := [] } := by decide

/-- R75: the accepted release gives its waiter P1 FREE and no CHG, the entry being unchanged. -/
theorem test_release_free :
    holdsAfter (fun t => (t.notice .P1).flags == flagFREE) (served (.release .P0 []) draftState) = true := by
  decide

/-- R103, R106: a DEFINE is born at the new G, owned by the port. -/
theorem test_release_define :
    holdsAfter (fun t => t.table.g == 2 && ((t.entry 3).live?.map Rec.bornGen == some 2) &&
      lookupTag 300 t.table.tagIndex == some 3) (served (.release .P0 []) definedState) = true := by decide

/-- R70: the lowest VACANT and unclaimed entry is allocated, at position 1 with item kind DEFINE. -/
theorem test_define_any : answerAfter .P0 (served (.stageDefine .P0 (defBytes 1)) liveState) =
    some { status := .ok, payload := [1, 2, 1, 0] } := by decide

/-- R74: CLAIMED answers the claimant, and the refused port waits. -/
theorem test_stage_claimed : answerAfter .P0 (served (.stageSet .P0 [3, 0, 5]) otherState) =
    some { status := .claimed, payload := [1] } := by decide

/-- R71: a REBOUND merged into a SET keeps its value. -/
theorem test_merge : mergeRebound 0 9 none (.set 7) = some (.rebound 0 9 (some 7)) := by decide

/-- R114: q ≤ A < r reads the last value, A ≥ r RETIRED. -/
theorem test_versioned : versionedRead (.retired rec1 5) 4 = .found 700 3 ∧
    versionedRead (.retired rec1 5) 5 = .retired 5 ∧ versionedRead (.retired rec1 5) 2 = .stale 3 ∧
    versionedRead (.retired rec1 5) 0 = .absent := by decide

/-- R116: with no anchor held the vacate test vacates. -/
theorem test_vacate : (vacateTest retiredState).entry 3 = vacantEntry := by decide

/-- R144: in SERVICING the flags are cleared and the gate stays; R143: `notice_done` rearms and raises for
the flag left. -/
theorem test_notice_done :
    noticeClear 0x01 { flags := 0x03, enables := 0x7F, gate := .servicing, changed := [] } =
      { flags := 0x02, enables := 0x7F, gate := .servicing, changed := [] } ∧
    noticeDone 0x01 { flags := 0x03, enables := 0x7F, gate := .servicing, changed := [] } =
      { flags := 0x02, enables := 0x7F, gate := .raised, changed := [] } := by decide

/-- R127: tag 300, changed_gen 1, newly subscribed. -/
theorem test_subscribe : answerAfter .P0 (served (.subscribe .P0 [3]) liveState) =
    some { status := .ok, payload := [1, 44, 0, 0, 0, 1, 1] } := by decide

/-- R157: a command of an EXECUTING port is discarded, its sequence number standing. -/
theorem test_discard :
    holdsAfter (fun t => (t.port .P0).seq == 1)
      (runRows [.readEntry .P0 [3], .commandDiscard .P0 0x21 [4]] liveState) = true := by decide

/-- R178: G_s 1 and target bank A when no bank is active; the state becomes ERASING. -/
theorem test_save_start :
    answerAfter .P1 (served (.saveStart .P1 []) liveState) =
      some { status := .ok, payload := [0, 0, 0, 1, 1] } ∧
    holdsAfter (fun t => t.save.record.state == .erasing) (served (.saveStart .P1 []) liveState) = true := by
  decide

/-- R186: another port than the starter and P0 may not abort. -/
theorem test_save_abort : answerAfter .P2 (exec (.saveAbort .P2 [])
    (saveState .erasing .erase none none)) = some { status := .noRight, payload := [] } := by decide

/-- R175: equal sequences make A active. -/
theorem test_select : selectBank ⟨writeHeader 4 0 0 blankBank, writeHeader 4 0 0 blankBank⟩ = some .A ∧
    selectBank ⟨writeHeader 4 0 0 blankBank, writeHeader 5 0 0 blankBank⟩ = some .B := by decide

/-- R49: RUNNING 2 steps to 1, RUNNING 1 to ELAPSED. -/
theorem test_step_count : stepCount (.running 2) = .running 1 ∧ stepCount (.running 1) = .elapsed := by
  decide

/-- R21: from PU2 on, P3 comes before the Lifetime Timer. -/
theorem test_rotation : searchOrder (.pu .P2) =
    [.pu .P2, .pu .P3, .timer, .save, .pu .P0, .pu .P1] := by decide

/-- R164: an nRESET pulse detaches a port and stops its session. -/
theorem test_reset : holdsAfter (fun t => !t.attached .P0 && t.save.startup)
    (runRows [.nresetFall, .nresetRise] bootState) = true := by decide

/-- R164: nCS is low as nRESET falls and rises before nRESET does: SDO stays in high impedance through the
next transaction, and is driven in the one after it. -/
theorem test_sdo_held :
    let reset : List Instr := [.ncsFall .P0, .nresetFall, .transactionEnd .P0, .nresetRise]
    holdsAfter (fun t => (t.port .P0).sdoHeld && (t.port .P0).link == .idle)
      (runRows reset bootState) = true ∧
    holdsAfter (fun t => (t.port .P0).sdo == [])
      (runRows (reset ++ [.readStatus .P0 []]) bootState) = true ∧
    holdsAfter (fun t => (t.port .P0).sdo == [0x82])
      (runRows (reset ++ [.readStatus .P0 [], .transactionEnd .P0, .readStatus .P0 []]) bootState) =
        true := by decide

/-! ### Witnesses: states and operands that meet the hypotheses of each statement -/

theorem witness_StepRunsFrontCommand :
    (State.reset.withPending [.ncsFall .P0]).pending = .ncsFall .P0 :: [] ∧
      State.reset.pending = [] := by decide

theorem witness_LinkRows :
    (bootState.nreset = true ∧ (bootState.port .P0).link = .idle) ∧
      (selectedState.port .P0).link = .selected (capture bootState .P0) ∧
      (selectedState.port .P0).link ≠ .idle := by decide

theorem witness_DiscardWhileExecuting :
    (∀ l ∈ [Link.idle, .selected (capture bootState .P0)],
      let s := busyState .release l
      s.nreset = true ∧ linkOpen (s.port .P0).link = true ∧ (s.port .P0).unit.isSome = true) ∧
      isPortRead 0x00 = false ∧ isPortRead 0x03 = false := by decide

theorem witness_RefusalOrder :
    (takes .P0 State.reset = true ∧ State.reset.save.startup = true) ∧
    (takes .P1 bootState = true ∧ takes .P0 selectedState = true ∧ bootState.save.startup = false) ∧
    (isPortRead 0x00 = false ∧ opcodeOf 0x00 = none) ∧ ([] : List Byte).length + 1 ≠ expectedCount .readEntry ∧
    (takes .P1 detachedState = true ∧ detachedState.save.startup = false ∧
      detachedState.attached .P1 = false ∧ ([] : List Byte).length + 1 = expectedCount .gateOn) ∧
    (bootState.attached .P1 = true ∧ Port.P1 ≠ .P0) ∧
    ¬ ((32 : Byte).toNat < 32 ∧ (0 : Byte).toNat < 32) ∧
    ¬ ((0 : Byte).toNat < 32 ∧ (32 : Byte).toNat < 32) ∧ 32 ≤ (32 : Byte).toNat ∧
    16 ≤ (16 : Byte).toNat ∧ 16 < (17 : Byte).toNat ∧ (0x80 : Byte).getLsbD 7 = true := by decide

theorem witness_TableCommandsAreTaken :
    (takes .P0 bootState = true ∧ bootState.save.startup = false ∧ bootState.attached .P0 = true) ∧
    ((0 : Byte) ++ (1 : Byte) : Word) ≠ 0 ∧ (31 : Byte).toNat < 32 ∧ (15 : Byte).toNat < 16 ∧
    (defBytes 0).length = 19 ∧ ((16 : Byte) ≠ 0 ∧ (16 : Byte).toNat ≤ 16) ∧ (1 : Byte) ≠ 0 := by decide

theorem witness_TakeTouchesOnlyOwnPort : Opcode.release ≠ .saveAbort ∧ Port.P1 ≠ .P0 := by decide

theorem witness_AttachAndSettings :
    (takes .P1 detachedState = true ∧ detachedState.save.startup = false ∧
      detachedState.attached .P1 = false) ∧
    takesAttached .P0 bootState = true ∧ (0 : Byte).toNat < 32 ∧ (31 : Byte).toNat < 32 := by decide

theorem witness_SessionEndServed :
    quiet .P0 draftState = true ∧ quiet .P1 draftState = true ∧ draftState.draft .P0 ≠ [] ∧
      draftState.attached .P1 = true ∧ Port.P1 ≠ .P0 := by decide

theorem witness_GateOnOff :
    takesAttached .P0 (noticeState 1 1 .disarmed) = true ∧
    ((noticeState 1 1 .disarmed).notice .P0).gate = .disarmed ∧
    enabledPending ((noticeState 1 1 .disarmed).notice .P0) = true ∧
    takesAttached .P0 (noticeState 1 1 .servicing) = true ∧
    ((noticeState 1 1 .servicing).notice .P0).gate ≠ .disarmed := by decide

theorem witness_TakeAndRearm :
    takesAttached .P0 (noticeState 1 1 .servicing) = true ∧
    ((noticeState 1 1 .servicing).notice .P0).gate = .servicing ∧
    takesAttached .P0 (noticeState 1 1 .raised) = true ∧
    ((noticeState 1 1 .raised).notice .P0).gate ≠ .servicing := by decide

theorem witness_NoticeDoneAndClear :
    takesAttached .P0 (noticeState 1 1 .raised) = true ∧ (0x80 : Byte).getLsbD 7 = true ∧
      (0x7F : Byte).getLsbD 7 = false ∧ (0x00 : Byte).getLsbD 7 = false := by decide

theorem witness_EnablesReplaced :
    takesAttached .P0 (noticeState 1 0 .armed) = true ∧ (0x80 : Byte).getLsbD 7 = true ∧
      (0x7F : Byte).getLsbD 7 = false := by decide

theorem witness_DeliveryApplied :
    (((noticeState 0 1 .armed).notice .P0).changed.Pairwise (· < ·)) ∧
    ((noticeState 0 1 .armed).notice .P0).gate = .armed ∧
    ((noticeState 0 1 .raised).notice .P0).gate ≠ .armed ∧
    ({ flags := flagCHG, indices := [5], empties := false } : Delivery) ≠ noDelivery := by decide

theorem witness_DeviceStatusServed :
    quietLink .P1 detachedState = true ∧ quietLink .P0 liveState = true := by decide

theorem witness_CurrentReadsServed :
    quiet .P0 liveState = true ∧ ((1 : Byte) ++ (44 : Byte) : Word) ≠ 0 ∧
    lookupTag ((1 : Byte) ++ (44 : Byte)) liveState.table.tagIndex = some 3 ∧
    ((0 : Byte) ++ (1 : Byte) : Word) ≠ 0 ∧
    lookupTag ((0 : Byte) ++ (1 : Byte)) liveState.table.tagIndex = none ∧
    (15 : Byte).toNat < 16 ∧ (31 : Byte).toNat < 32 := by decide

theorem witness_HandleMap :
    (15 : Handle).val = (7 : Handle).val + 8 ∧ (8 : Handle).val = (0 : Handle).val + 8 ∧
      (0 : Slice) ≠ 31 ∧ resolveHandle 0 31 15 = resolveHandle 0 31 15 := by decide

/-- `retiredState` with an anchor of P0. -/
def anchoredState (a : Gen) : State := retiredState.setAnchor .P0 (some a)

theorem witness_AnchorsServed :
    quiet .P0 (anchoredState 4) = true ∧ (anchoredState 4).anchor .P0 = some 4 ∧
      quiet .P0 liveState = true ∧ liveState.anchor .P0 = none ∧ (15 : Byte).toNat < 16 := by decide

theorem witness_VersionedRead :
    (rec0.prior = none → rec0.changedGen = rec0.bornGen) ∧
    (rec1.prior = none → rec1.changedGen = rec1.bornGen) ∧ (0 : Gen) < rec1.bornGen ∧
    (rec1.bornGen ≤ 5 ∧ (5 : Gen) ≤ 5) ∧ (rec1.bornGen ≤ 4 ∧ (4 : Gen) < 5) ∧
    rec1.changedGen ≤ 5 ∧ rec1.prior = some { value := 700, gen := 3 } ∧ (4 : Gen) < rec1.changedGen ∧
    (3 : Gen) ≤ 4 ∧ (3 : Gen) ≤ 3 ∧ (2 : Gen) < 3 ∧ rec1.bornGen ≤ 3 ∧ (3 : Gen) < rec1.changedGen := by
  decide

theorem witness_VacateTestApplied :
    ((anchoredState 5).entry 3).content = .retired rec1 5 ∧
    (∀ a ∈ heldAnchors (anchoredState 5).table, (5 : Gen) ≤ a) ∧
    ((anchoredState 4).entry 3).content = .retired rec1 5 ∧
    ∃ a ∈ heldAnchors (anchoredState 4).table, a < (5 : Gen) := by
  refine ⟨rfl, fun a h => ?_, rfl, 4, List.mem_singleton.2 rfl, by decide⟩
  rw [List.mem_singleton.1 (show a ∈ [(5 : Gen)] from h)]
  exact BitVec.le_refl _

/-- P0's draft holds a RETIRE for the LIVE entry 3. -/
def retiringState : State :=
  stateOf (.live rec0) (some .P0) noPorts [{ index := 3, change := .retire }] 1

theorem witness_StageMerges :
    (quiet .P0 draftState = true ∧ (draftState.entry 3).claim = some .P0 ∧
      itemFor (draftState.draft .P0) 3 = some setItem ∧ (draftState.entry 3).content = .live rec0 ∧
      PortSet.has rec0.writeSet .P0 = true ∧ rec0.owner = .P0 ∧ rec0.kind = .unsigned ∧
      setItem.isDefine = false ∧ mergeSet 5 setItem.change = some (.set 5)) ∧
    (quiet .P0 definedState = true ∧ (definedState.entry 3).claim = some .P0 ∧
      itemFor (definedState.draft .P0) 3 = some defItem ∧
      (definedState.entry 3).content = .vacant ∧ defItem.isDefine = true ∧
      defItem.change = .define sampleDefinition ∧ sampleDefinition.kind = .unsigned) ∧
    (leIn .unsigned ((0 : Byte) ++ (5 : Byte)) ((0 : Byte) ++ (5 : Byte)) = true ∧ (1 : Byte).toNat < 2 ∧ (0 : Byte).toNat < 2 ∧
      mergeRebound 5 5 (some 5) setItem.change = some (.rebound 5 5 (some 5))) ∧
    (quiet .P0 retiringState = true ∧
      itemFor (retiringState.draft .P0) 3 = some { index := 3, change := .retire }) := by decide

theorem witness_StageCreatesItem :
    (let s := liveState.setDraft .P0 (itemsFrom100 15)
     quiet .P0 s = true ∧ (s.entry 3).content = .live rec0 ∧ (s.entry 3).claim = none ∧
       itemFor (s.draft .P0) 3 = none ∧ (s.draft .P0).length = 15) ∧
    PortSet.has rec0.writeSet .P0 = true ∧ rec0.owner = .P0 ∧
    leIn rec0.kind ((3 : Byte) ++ (32 : Byte)) ((3 : Byte) ++ (32 : Byte)) = true ∧ (15 : Byte).toNat < 16 := by decide

theorem witness_DefineWithdrawn :
    quiet .P0 definedState = true ∧ (definedState.entry 3).content = .vacant ∧
      (definedState.entry 3).claim = some .P0 ∧
      itemFor (definedState.draft .P0) 3 = some defItem ∧ defItem.isDefine = true := by decide

theorem witness_StageRefused :
    (quiet .P0 retiredState = true ∧ (retiredState.entry 3).content = .retired rec1 5) ∧
    (quiet .P0 bootState = true ∧ (bootState.entry 3).content = .vacant ∧
      itemFor (bootState.draft .P0) 3 = none) ∧
    (quiet .P2 liveState = true ∧ (liveState.entry 3).content = .live rec0 ∧
      PortSet.has rec0.writeSet .P2 = false ∧ rec0.owner ≠ .P2) ∧
    (quiet .P0 liveState = true ∧ 1 < (2 : Byte).toNat ∧
      leIn rec0.kind ((0 : Byte) ++ (1 : Byte)) ((0 : Byte) ++ (0 : Byte)) = false) ∧
    (let s := liveState.setDraft .P0 (itemsFrom100 16)
     quiet .P0 s = true ∧ (s.entry 3).claim = none ∧ itemFor (s.draft .P0) 3 = none ∧
       16 ≤ (s.draft .P0).length ∧ (1 : Byte).toNat < 2) ∧
    (quiet .P0 otherState = true ∧ (otherState.entry 3).claim = some .P1 ∧
      (otherState.entry 3).content = .live rec0) ∧
    (let s := stateOf .vacant (some .P1) noPorts [] 1
     quiet .P0 s = true ∧ (s.entry 3).claim = some .P1 ∧ (s.entry 3).content = .vacant ∧
       defineParams .P0 (defBytes 0) = some (some 3, sampleDefinition)) := by decide

/-- Every entry is LIVE. -/
def fullState : State :=
  bootState.withEntries (Vector.replicate 256 { content := .live rec0, claim := none, waiters := noPorts })

theorem witness_DefineStaged :
    (defBytes 0).length = 19 ∧ defineParams .P0 (defBytes 0) = some (some 3, sampleDefinition) ∧
    defineParams .P0 (defBytes 1) = some (none, sampleDefinition) ∧
    (∀ s ∈ [retiredState, liveState, definedState, bootState, fullState,
      bootState.setDraft .P0 (itemsFrom100 15), bootState.setDraft .P0 (itemsFrom100 16)],
      quiet .P0 s = true) ∧
    (retiredState.entry 3).content = .retired rec1 5 ∧ (liveState.entry 3).content = .live rec0 ∧
    ((definedState.entry 3).content = .vacant ∧ (definedState.entry 3).claim = some .P0) ∧
    ((bootState.entry 3).content = .vacant ∧ (bootState.entry 3).claim = none ∧
      (itemsFrom100 15).length < 16 ∧ 16 ≤ (itemsFrom100 16).length) ∧
    ((bootState.entry 0).content = .vacant ∧ (bootState.entry 0).claim = none ∧
      sampleDefinition.coupling = none) := by decide

theorem witness_DefineStaged_full (i : Index) : (fullState.entry i).content = .live rec0 ∧ ¬ i < 0 :=
  ⟨congrArg Entry.content (Vector.getElem_replicate i.isLt), Fin.not_lt_zero i⟩

theorem witness_DefineParameters :
    quiet .P0 bootState = true ∧ (defBytes 2).length = 19 ∧ defineParams .P0 (defBytes 2) = none ∧
      defineParams .P0 (defBytes 1) = some (none, sampleDefinition) ∧ Port.P1 ≠ .P0 := by decide

theorem witness_DraftViewAndRemove :
    (quiet .P0 draftState = true ∧ (1 : Byte) ≠ 0 ∧ (1 : Byte).toNat ≤ 16 ∧
      (draftState.draft .P0)[(1 : Byte).toNat - 1]? = some setItem ∧
      (draftState.draft .P0).length < (2 : Byte).toNat) ∧
    (let s := liveState.setDraft .P0 (itemsFrom100 16)
     quiet .P0 s = true ∧ (s.draft .P0)[(16 : Byte).toNat - 1]?.isSome = true) ∧
    itemFor (draftState.draft .P0) 3 = some setItem ∧ itemFor (draftState.draft .P0) 4 = none := by decide

theorem witness_DraftDiscarded :
    quiet .P0 draftState = true ∧ quiet .P0 liveState = true ∧ liveState.draft .P0 = [] ∧
      liveState.timer.draftCount.get .P0 = .stopped := by decide

theorem witness_ValueComparisons :
    leIn .signed 0x8000 0x7FFF = true ∧ within .unsigned 5 5 5 = true ∧
      valueOf .signed 0x8000 < valueOf .signed 0xFFFF ∧ leIn .signed 0xFFFF 0 = true ∧
      valueOf .signed 0 < valueOf .signed 1 := by decide

/-- Entry 3 refuses the SET of 900. -/
def refusingState : State :=
  stateOf (.live { rec0 with policy := .refuse }) (some .P0) noPorts [setItem] 1

theorem witness_ReleaseRefused :
    (quiet .P0 liveState = true ∧ liveState.draft .P0 = []) ∧
    (let s := stateOf (.live rec0) (some .P0) noPorts [setItem] 4294967295
     quiet .P0 s = true ∧ s.draft .P0 ≠ [] ∧ s.table.g = 4294967295) ∧
    (quiet .P0 refusingState = true ∧ refusingState.draft .P0 ≠ [] ∧
      refusingState.table.g ≠ 4294967295 ∧
      firstFailure refusingState.table.dependents
        (postState .P0 (refusingState.table.g + 1) (refusingState.draft .P0)
          refusingState.table.entries) (refusingState.draft .P0) =
        some (1, setItem, ⟨.range, none⟩)) := by decide

theorem witness_PostStateStamps :
    (let items : List Item := [setItem, { defItem with index := 4 }, { index := 5, change := .retire },
        { index := 6, change := .rebound 0 9 none }]
     (items.map Item.index).Nodup ∧ setItem ∈ items) ∧
    ((entriesOf [(3, .live rec0)]).get 3).content = .live rec0 ∧
    ((entriesOf [(3, .live rec0)]).get 4).content = .vacant := by decide

/-- A record coupled to entry 4, NOT_ABOVE. -/
def coupled : Rec :=
  { rec0 with tag := 7, coupling := some { partner := 4, relation := .notAbove, margin := 0 } }

/-- A definition like it. -/
def coupledDefinition : Definition :=
  { sampleDefinition with tag := 7, coupling := some { partner := 4, relation := .notAbove, margin := 0 } }

theorem witness_ReleaseChecks :
    (let e := entriesOf [(3, .live rec0), (5, .live { rec0 with value := 801 }), (6, .live coupled)]
     (e.get 3).content = .live rec0 ∧ setItem.change ≠ .retire ∧
     within rec0.kind rec0.low rec0.high rec0.value = true ∧
     within .unsigned 0 800 801 = false ∧ (e.get 5).content = .live { rec0 with value := 801 } ∧
     defItem.change = .define sampleDefinition ∧ (5 : Index) ≠ 3 ∧ sampleDefinition.tag = rec0.tag ∧
     (e.get 6).content = .live coupled ∧ coupled.coupling.isSome = true) ∧
    (let w : Rec := { rec0 with tag := 9, value := 799, retain := false, kind := .unsigned }
     let e := entriesOf [(4, .live w), (6, .live coupled)]
     (e.get 4).content = .live w ∧ w.kind = coupledDefinition.kind ∧
     (coupledDefinition.retain = true ∧ w.retain = false) ∧
     relationHolds ⟨4, .notAbove, 0⟩ coupled.kind coupled.value w.value = false ∧
     relationHolds ⟨4, .notAbove, 0⟩ coupled.kind 799 w.value = true) ∧
    (let e := entriesOf [(6, .live coupled), (4, .retired rec1 5)]
     (e.get 6).content = .live coupled ∧ (e.get 4).content = .retired rec1 5 ∧
     checkDependent e { index := 4, change := .retire } 6 = some ⟨.coupled, some 6⟩) := by decide

/-- Items that pass (a) to (d): a SET without a coupling, a SET whose coupling holds, and a DEFINE. -/
theorem witness_ReleaseChecks_passing :
    let w : Rec := { rec0 with tag := 9, value := 800 }
    let e := entriesOf [(3, .live rec0), (4, .live w), (6, .live coupled), (7, .live { rec0 with tag := 8 })]
    (rec0.coupling = none ∧ setItem.change ≠ .retire) ∧
    ((e.get 4).content = .live w ∧ relationHolds ⟨4, .notAbove, 0⟩ coupled.kind coupled.value w.value = true) ∧
    ((e.get 7).content = .live { rec0 with tag := 8 } ∧
      ∀ j : Index, j ≠ 7 → ∀ q ∈ (e.get j).live?, q.tag ≠ 8) := by decide

theorem witness_ReleaseAccepted :
    quiet .P0 draftState = true ∧ draftState.draft .P0 ≠ [] ∧ draftState.table.g ≠ 4294967295 ∧
      firstFailure draftState.table.dependents
        (postState .P0 (draftState.table.g + 1) (draftState.draft .P0) draftState.table.entries)
        (draftState.draft .P0) = none := by decide

theorem witness_SubscriptionsServed :
    (quiet .P0 liveState = true ∧ (liveState.entry 3).content = .live rec0) ∧
    (quiet .P0 retiredState = true ∧ (retiredState.entry 3).content = .retired rec1 5) ∧
    (quiet .P0 bootState = true ∧ (bootState.entry 3).content = .vacant) ∧ (31 : Byte).toNat < 32 := by
  decide

theorem witness_NextChangedServed :
    (quiet .P1 bootState = true ∧ (bootState.notice .P1).changed = []) ∧
    (quiet .P0 (noticeState 1 1 .raised) = true ∧
      ((noticeState 1 1 .raised).notice .P0).changed = 3 :: [7] ∧
      ((noticeState 1 1 .raised).notice .P0).changed.Pairwise (· < ·)) := by decide

/-- The active bank A carries the last sequence. -/
def lastImageState : State :=
  (bootState.withStore { a := writeHeader 4294967295 0 0 blankBank, b := blankBank }).withSave
    { bootState.save with active := some .A }

theorem witness_SaveStartServed :
    (quiet .P0 (saveState .erasing .erase none none) = true ∧
      (saveState .erasing .erase none none).save.record.state ≠ .idle) ∧
    (quiet .P1 lastImageState = true ∧ lastImageState.save.record.state = .idle ∧
      lastImageState.save.active = some .A ∧ (lastImageState.store.get .A).sequence = 4294967295) ∧
    (quiet .P1 liveState = true ∧ liveState.save.record.state = .idle ∧
      liveState.save.active = none) := by decide

theorem witness_SaveStatusAndAbort :
    (takesAttached .P0 liveState = true ∧ liveState.arbiter.op = none ∧
      (seenRecord liveState).state = .idle) ∧
    (let s := opState .save none .saveEnd (some resetRecord) bootState
     s.arbiter.op.map TableOperation.saveSeen = some (some resetRecord)) ∧
    (let s := saveState .erasing .erase none none
     takesAttached .P2 s = true ∧ (seenRecord s).state ≠ .idle ∧ (seenRecord s).starter ≠ some .P2 ∧
       takesAttached .P1 s = true ∧ (seenRecord s).starter = some .P1 ∧
       (seenRecord s).endPending = none ∧ (seenRecord s).state ≠ .closing ∧ Port.P2 ≠ .P0) ∧
    (let s := saveState .closing .header none none
     takesAttached .P0 s = true ∧ (seenRecord s).state = .closing) ∧
    (let s := saveState .erasing .none (some .finish) (some .fault)
     takesAttached .P0 s = true ∧ (seenRecord s).state ≠ .idle ∧ (seenRecord s).endPending ≠ none) := by
  decide

theorem witness_TableWipeServed :
    quiet .P0 draftState = true ∧ quiet .P0 (saveState .erasing .erase none none) = true ∧
      (saveState .erasing .erase none none).save.record.state = .erasing := by decide

/-- P0 has taken a wipe, while the Save Engine and P1 hold requests and an expiry is pending. -/
def wipeState (rq : SaveRequest) (e : Option SaveOutcome) : State :=
  let s := timerState .elapsed .stopped [[.draft .P0]] (saveState .copying .none (some rq) e)
  (s.setPort .P0 { s.port .P0 with unit := some (inFlight .tableWipe), request := true }).setPort .P1
    { s.port .P1 with unit := some (inFlight .release), request := true }

theorem witness_TableWipeServed_withdrawn :
    ∀ s ∈ [wipeState .copy none, wipeState .finish (some .torn)],
      nextGrant s = some (.pu .P0) ∧ (s.port .P0).unit = some (inFlight .tableWipe) ∧
        s.save.record.state = .copying ∧ s.save.request.isSome = true := by decide

theorem witness_TableReloadServed :
    (quiet .P0 (saveState .copying .none none none) = true ∧
      (saveState .copying .none none none).save.record.state ≠ .idle) ∧
    (quiet .P0 draftState = true ∧ draftState.save.record.state = .idle) := by decide

theorem witness_StoreWorkRows :
    ((saveState .erasing .erase none none).save.work = .erase ∧
      (saveState .erasing .erase none none).save.record.target = some .A) ∧
    (let s := saveState .copying (.program sampleRecord) none none
     s.save.work = .program sampleRecord ∧ s.save.record.target = some .A ∧
       s.save.record.copied ≤ (s.store.get .A).records.length) ∧
    ((saveState .closing .header none none).save.work = .header ∧
      (saveState .closing .header none none).save.record.target = some .A ∧
      (saveState .closing .header none none).save.record.gs = some 0) ∧
    ((saveState .closing .reerase none none).save.work = .reerase ∧
      (saveState .closing .reerase none none).save.record.target = some .A) := by decide

theorem witness_SaveCopyRows :
    (let s := saveState .copying .none (some .copy) none
     nextGrant s = some .save ∧ s.save.request = some .copy ∧
       s.save.record.nextIndex.val < 255 ∧ s.save.record.endPending = none) ∧
    (∀ v ∈ [Visit.noRecord, .record sampleRecord, .torn],
      let s := opState .save none (.copy v) none (saveState .copying .none none none)
      s.arbiter.op = some { requester := .save, answer := none, finish := .copy v, saveSeen := none } ∧
        s.save.record.endPending = none) ∧
    (saveState .copying .none none (some .aborted)).save.record.endPending ≠ none ∧
    ((255 : Index).val = 255 ∧ (254 : Index).val < 255) ∧
    (rec0.retain = true ∧ ({ rec0 with retain := false } : Rec).retain = false ∧
      versionedRead (.live rec0) 0 = .absent ∧ versionedRead (.retired rec1 5) 5 = .retired 5 ∧
      versionedRead (.live rec1) 2 = .stale 3 ∧ versionedRead (.live rec0) 1 = .found 800 1 ∧
      within rec0.kind rec0.low rec0.high 800 = true ∧
      versionedRead (.live { rec1 with low := 750 }) 4 = .found 700 3 ∧
      within .unsigned 750 800 700 = false) := by decide

theorem witness_SaveEndRows :
    (let s := saveState .closing .none (some .finish) (some .done)
     nextGrant s = some .save ∧ s.save.request = some .finish) ∧
    (let s := opState .save none .saveEnd none (saveState .closing .none none (some .done))
     s.arbiter.op = some { requester := .save, answer := none, finish := .saveEnd, saveSeen := none }) := by
  decide

theorem witness_GrantRotation :
    mayGrant State.reset = false ∧ mayGrant bootState = true ∧
      (∀ r ∈ requesterRing, holdsRequest bootState r = false) ∧
      nextGrant (busyState .release .idle) = some (.pu .P0) := by decide

theorem witness_GrantRows :
    nextGrant bootState = none ∧
    (∀ c ∈ [TableCmd.release, .sessionEnd true, .sessionEnd false],
      nextGrant (busyState c .idle) = some (.pu .P0) ∧
        ((busyState c .idle).port .P0).unit = some (inFlight c)) := by decide

theorem witness_CompletionWritesResult :
    bootState.arbiter.op = none ∧
    ((opState .timer none .plain none draftState).arbiter.op =
      some { requester := .timer, answer := none, finish := .plain, saveSeen := none }) ∧
    (let s := opState (.pu .P0) (some (bare .ok)) .plain none (busyState .release .idle)
     s.arbiter.op = some { requester := .pu .P0, answer := some (bare .ok), finish := .plain,
                           saveSeen := none } ∧
       (s.port .P0).unit = some (inFlight .release)) := by decide

theorem witness_CountdownRows :
    bootState.nreset = true ∧ 2 ≤ (2 : Byte).toNat ∧ (1 : Byte) ≠ 0 ∧
    (let s := timerState (.running 1) (.running 1) [] bootState
     s.nreset = true ∧ s.timer.draftCount.get .P0 = .running 1 ∧
       s.timer.anchorCount.get .P0 = .running 1) ∧
    (∀ c ∈ [Countdown.stopped, .elapsed, .running 2],
      (timerState c c [] bootState).timer.draftCount.get .P0 ≠ .running 1) := by decide

theorem witness_ExpiryRows :
    let s := timerState .elapsed .elapsed [[.draft .P0, .anchor .P0]] (draftState.setAnchor .P0 (some 0))
    nextGrant s = some .timer ∧ expiryGroups s = [.draft .P0, .anchor .P0] :: [] ∧
      s.draft .P0 ≠ [] ∧ s.timer.draftCount.get .P0 = .elapsed ∧
      s.anchor .P0 ≠ none ∧ s.timer.anchorCount.get .P0 = .elapsed ∧
    (let t := timerState .stopped .stopped [[.draft .P0, .anchor .P0]] liveState
     nextGrant t = some .timer ∧ t.draft .P0 = [] ∧ t.anchor .P0 = none) := by decide

theorem witness_ChipResetRows :
    bootState.nreset = true ∧ (bootState.withNreset false).nreset = false ∧
      ((bootState.withNreset false).port .P0).link = .idle ∧
      selectedState.nreset = true ∧ (selectedState.port .P0).link ≠ .idle ∧
      ((busyState .release .ignored).port .P0).link = .ignored := by decide

/-- An image of one record in bank A. -/
def imageState : State :=
  State.reset.withStore
    { a := writeHeader 1 7 1 { blankBank with records := [sampleRecord] }, b := blankBank }

theorem witness_ImageLoaded_table : imageState.table = resetTable := rfl

theorem witness_ImageLoaded :
    (imageState.nreset = true ∧ imageState.save.startup = true ∧ bootState.save.startup = false ∧
      imageRecords (loadImage imageState) = [sampleRecord] ∧
      ((imageRecords (loadImage imageState)).map RetainedRecord.index).Nodup ∧
      ((imageRecords (loadImage imageState)).map RetainedRecord.tag).Nodup) ∧
    (bankValid imageState.store.a = true ∧ bankValid imageState.store.b = false ∧
      bankValid (writeHeader 4 0 0 blankBank) = true ∧ (256 : Nat) ≤ 256) := by decide

/-! The hypotheses of the laws, met by a state with a LIVE, claimed and waited-on entry, and a command in
front of its queue. -/

def lawState : State := draftState.withPending [.release .P0 []]

theorem lawState_three : (lawState.entry 3).content = .live rec0 := rfl

theorem lawState_vacant : ∀ i : Index, i ≠ 3 → (lawState.entry i).content = .vacant := by decide

theorem lawState_live {i : Index} {r : Rec} (h : (lawState.entry i).content = .live r) :
    i = 3 ∧ r = rec0 := by
  by_cases hi : i = 3
  · subst hi
    rw [lawState_three] at h
    exact ⟨rfl, (Content.live.inj h).symm⟩
  · rw [lawState_vacant i hi] at h
    exact Content.noConfusion h

theorem witness_NoticeLawsKept :
    let s := (noticeState 1 1 .raised).withPending [.noticeDone .P0 [1]]
    gateLaw s ∧ changedLaw s ∧ ∃ t, step s = .next t := by
  refine ⟨fun p => by cases p <;> decide, fun p => by cases p <;> decide, _, rfl⟩

theorem witness_ClaimsKept :
    startupLaw lawState ∧ claimLaw lawState ∧ ∃ t, step lawState = .next t := by
  refine ⟨fun h => (Bool.false_ne_true h).elim, ⟨?_, ?_, ?_, ?_, ?_⟩, _, rfl⟩
  · intro p; cases p <;> decide
  · intro p; cases p <;> decide
  · decide
  · intro i p; revert i; cases p <;> decide
  · intro p; cases p <;> decide

theorem witness_GenerationsKept :
    (startupLaw lawState ∧ claimLaw lawState ∧ ∃ t, step lawState = .next t) ∧
      saveAnchorLaw lawState ∧ generationLaw lawState := by
  refine ⟨witness_ClaimsKept, ⟨fun h => (Bool.false_ne_true h).elim, fun f h => (nomatch (show (none : Option Finish) = some f from h))⟩,
    ?_, fun a h => (nomatch (show a ∈ ([] : List Gen) from h)), ?_⟩
  · intro i
    by_cases hi : i = 3
    · subst hi
      exact ⟨by decide, by decide, fun q hq => by cases hq⟩
    · rw [lawState_vacant i hi]; trivial
  · intro i r rg h
    by_cases hi : i = 3
    · subst hi
      rw [lawState_three] at h
      exact Content.noConfusion h
    · rw [lawState_vacant i hi] at h
      exact Content.noConfusion h

theorem witness_RangesKept :
    (startupLaw lawState ∧ claimLaw lawState ∧ ∃ t, step lawState = .next t) ∧ rangeLaw lawState := by
  refine ⟨witness_ClaimsKept, ?_, ?_, fun r h => StoreWork.noConfusion h,
    fun r h => (nomatch (show (none : Option Finish) = some _ from h))⟩
  · intro i r h
    by_cases hi : i = 3
    · subst hi
      have : rec0 = r := Option.some.inj h
      subst this
      decide
    · have hv := lawState_vacant i hi
      unfold Entry.rec? at h
      rw [hv] at h
      cases h
  · intro n r h
    cases n <;> cases h

theorem witness_ActiveBankKept :
    let s := (saveState .erasing .erase none none).withPending [.saveEraseComplete true]
    SaveLaw s ∧ activeValid s ∧ ∃ t, step s = .next t := by
  intro s
  have no : ∀ f, ¬ finishing s f := fun f h =>
    nomatch (show (none : Option Finish) = some f from h)
  refine ⟨⟨by decide, by decide, fun _ _ => ⟨.A, by decide⟩, by decide, by decide, by decide,
    fun v h => (no _ h).elim, fun p g h => (no _ h).elim, fun h => (no _ h).elim,
    fun h => (no _ h).elim, fun o r h => (nomatch (show (none : Option TableOperation) = some o from h)),
    by decide⟩, fun n h => (nomatch (show (none : Option BankName) = some n from h)), _, rfl⟩

theorem lawState_tableLaw : tableLaw lawState.table := by
  refine ⟨?_, ?_, ?_, ?_⟩
  · intro i j r q hi hj _
    rw [(lawState_live hi).1, (lawState_live hj).1]
  · intro tag i
    constructor
    · intro h
      have hx : tag = 300 ∧ i = 3 := by
        change lookupTag tag [(300, 3)] = some i at h
        by_cases ht : (300 : Word) = tag
        · subst ht
          exact ⟨rfl, (Option.some.inj h).symm⟩
        · exact absurd (by simpa [lookupTag] using congrArg Option.isSome h) ht
      obtain ⟨rfl, rfl⟩ := hx
      exact ⟨rec0, rfl, rfl⟩
    · rintro ⟨r, h, rfl⟩
      obtain ⟨rfl, rfl⟩ := lawState_live h
      rfl
  · intro i r c h hc
    obtain ⟨rfl, rfl⟩ := lawState_live h
    cases hc
  · intro e d
    constructor
    · intro h
      have : ∀ e : Index, lawState.table.dependents.get e = [] := by decide
      rw [this] at h
      cases h
    · rintro ⟨r, c, h, hc, _⟩
      obtain ⟨rfl, rfl⟩ := lawState_live h
      cases hc

/-- A record coupled to the sample record, NOT_ABOVE. -/
def coupledRecord : RetainedRecord :=
  { sampleRecord with
    index := 4, tag := 7, value := 700
    coupling := some { partner := 3, relation := .notAbove, margin := 0 } }

/-- The same state with an image of two records, one coupled to the other, in bank A. -/
def lawImageState : State :=
  lawState.withStore
    { a := writeHeader 1 7 2 { blankBank with records := [sampleRecord, coupledRecord] }, b := blankBank }

theorem lawImageState_image : selectedImageLaw lawImageState.store := by
  intro n h
  cases n with
  | A =>
    show imageLaw [sampleRecord, coupledRecord]
    refine ⟨by decide, by decide, fun r hr c hc => ?_⟩
    rcases List.mem_pair.mp hr with rfl | rfl
    · cases hc
    · cases hc
      exact ⟨sampleRecord, by decide⟩
  | B => exact absurd h (by decide)

theorem witness_TableLawsKept :
    (startupLaw lawImageState ∧ claimLaw lawImageState ∧ tableLaw lawImageState.table ∧
      selectedImageLaw lawImageState.store ∧ ∃ t, step lawImageState = .next t) ∧
    (quiet .P0 lawState = true ∧ claimLaw lawState ∧ tableLaw lawState.table ∧
      ∃ t, served (.release .P0 []) lawState = .next t) :=
  ⟨⟨witness_ClaimsKept.1, witness_ClaimsKept.2.1, lawState_tableLaw, lawImageState_image, _, rfl⟩,
    by decide, witness_ClaimsKept.2.1, lawState_tableLaw, _, rfl⟩

theorem witness_GenerationCounts : ∃ t, step lawState = .next t := ⟨_, rfl⟩

theorem witness_StoreChangesOnlyByItsWork :
    let s := saveState .closing .header none none
    ∃ t, exec (.headerWriteComplete true) s = .next t ∧ t.store ≠ s.store := ⟨_, rfl, by decide⟩

end Sys2Proof.Tests
end

