-- ==== Sys2Proof/Proofs/Windows.lean ====
section
/-! PROOF. The map from handles to entries (R33): the index splits into the window's slice and the
handle's place in it. -/

namespace Sys2Proof.Proofs
open Sys2Proof.Machine

/-- The window a handle goes through: WIN0 below 8, WIN1 from 8 on (R33). -/
def windowOf (w0 w1 : Slice) (h : Handle) : Slice := if h.val < 8 then w0 else w1

@[simp] theorem windowOf_low {w0 w1 : Slice} {h : Handle} (hlt : h.val < 8) :
    windowOf w0 w1 h = w0 := if_pos hlt

@[simp] theorem windowOf_high {w0 w1 : Slice} {h : Handle} (hge : ¬ h.val < 8) :
    windowOf w0 w1 h = w1 := if_neg hge

@[simp] theorem windowOf_self (w : Slice) (h : Handle) : windowOf w w h = w := ite_self w

theorem windowOf_eq_left_iff {w0 w1 : Slice} (hne : w0 ≠ w1) (h : Handle) :
    windowOf w0 w1 h = w0 ↔ h.val < 8 := by
  by_cases hlt : h.val < 8
  · simp [hlt]
  · rw [windowOf_high hlt]
    exact iff_of_false hne.symm hlt

/-- Through different windows, the window tells on which side of 8 the handle stands. -/
theorem lt_eight_iff_of_windowOf_eq {w0 w1 : Slice} (hne : w0 ≠ w1) {h k : Handle}
    (hw : windowOf w0 w1 h = windowOf w0 w1 k) : h.val < 8 ↔ k.val < 8 := by
  rw [← windowOf_eq_left_iff hne, hw, windowOf_eq_left_iff hne]

theorem resolveHandle_val (w0 w1 : Slice) (h : Handle) :
    (resolveHandle w0 w1 h).val = 8 * (windowOf w0 w1 h).val + h.val % 8 := by
  by_cases hlt : h.val < 8 <;> simp [resolveHandle, hlt]

/-- An index is the slice and the place in it: two handles name one entry exactly when both agree. -/
theorem resolveHandle_eq_iff (w0 w1 : Slice) (h k : Handle) :
    resolveHandle w0 w1 h = resolveHandle w0 w1 k ↔
      windowOf w0 w1 h = windowOf w0 w1 k ∧ h.val % 8 = k.val % 8 := by
  rw [Fin.ext_iff, Fin.ext_iff, resolveHandle_val, resolveHandle_val]
  omega

/-- Settles O18: the value by the handle's side of 8; the two consequences by comparing the slices
and the places in them. -/
theorem handleMap : Obligations.HandleMap := by
  intro w0 w1
  refine ⟨fun h => ?value, fun heq h k hk => ?equalWindows, fun hne h k heq => ?differentWindows⟩
  case value =>
    rw [resolveHandle_val]
    split
    next hlt => rw [windowOf_low hlt, Nat.mod_eq_of_lt hlt]
    next hge => rw [windowOf_high hge]; omega
  case equalWindows =>
    subst heq
    have hplace : h.val % 8 = k.val % 8 := by omega
    exact (resolveHandle_eq_iff _ _ _ _).2 ⟨by simp, hplace⟩
  case differentWindows =>
    obtain ⟨hwindow, hplace⟩ := (resolveHandle_eq_iff w0 w1 h k).1 heq
    have hside := lt_eight_iff_of_windowOf_eq hne hwindow
    exact Fin.ext (by omega)

end Sys2Proof.Proofs
end

