-- ==== Sys2Proof/Proofs/Drafts.lean ====
section
/-! PROOF. `draft_discard` (R78) and the end of a draft's claims (R75): the FREE delivery to the waiters,
the end of claims entry by entry and port by port, and the discard as the emptied draft. -/

namespace Sys2Proof.Proofs
open Sys2Proof.Machine

/-! ### One flag delivered (R134) -/

/-- A delivery of one flag carries something exactly when its condition holds. -/
theorem applyDelivery_flagIf {fl : NoticeFlags} (hfl : fl ≠ 0) (b : Bool) (n : NoticeUnit) :
    applyDelivery { flags := flagIf b fl, indices := [], empties := false } n =
      if b then raiseTest { n with flags := n.flags ||| fl } else n := by
  cases b with
  | false => exact applyDelivery_none n
  | true =>
    have hcarries : ({ flags := fl, indices := [], empties := false } : Delivery) ≠ noDelivery :=
      fun h => hfl (congrArg Delivery.flags h)
    exact if_neg hcarries

/-- A flag reaches the ATTACHED ports of the set, each once, and no other port. -/
theorem deliverFlag_notice {fl : NoticeFlags} (hfl : fl ≠ 0) (ps : PortSet) (s : State) (q : Port) :
    (deliverFlag fl ps s).notice q =
      if s.attached q && PortSet.has ps q then
        raiseTest { s.notice q with flags := (s.notice q).flags ||| fl }
      else s.notice q := by
  rw [deliverFlag, deliver_notice, applyDelivery_flagIf hfl]
  cases s.attached q <;> simp

/-- A delivery of nothing to any port changes nothing. -/
theorem deliver_none (s : State) : deliver (fun _ => noDelivery) s = s := by
  have hsame : (PerPort.make fun q =>
      if s.attached q then applyDelivery noDelivery (s.notice q) else s.notice q) = s.notices :=
    PerPort.ext_get fun q => by simp [State.notice]
  rw [deliver, hsame]
  rfl

/-! ### The end of claims (R75) -/

theorem endClaims_entry (items : List Item) (s : State) (i : Index) :
    (endClaims items s).entry i =
      if items.any (fun it => it.index == i) then
        { s.entry i with claim := none, waiters := noPorts } else s.entry i :=
  dropClaims_get items s.table.entries i

theorem endClaims_notice (items : List Item) (s : State) (q : Port) :
    (endClaims items s).notice q =
      if s.attached q && items.any (fun it => PortSet.has (s.entry it.index).waiters q) then
        raiseTest { s.notice q with flags := (s.notice q).flags ||| flagFREE }
      else s.notice q := by
  have hfree : flagFREE ≠ 0 := by decide
  rw [endClaims, deliverFlag_notice hfree, waitersOf_has]
  rfl

/-- The end of claims touches the entries and the Notice Units alone. -/
theorem endClaims_frame (items : List Item) (s : State) :
    endClaims items s = { s with
      table := { s.table with entries := (endClaims items s).table.entries }
      notices := (endClaims items s).notices } := rfl

@[simp] theorem endClaims_nil (s : State) : endClaims [] s = s := deliver_none s

/-! ### The emptied draft (R78, R80) -/

theorem emptyDraft_eq (p : Port) (s : State) :
    emptyDraft p s = ((endClaims (s.draft p) s).setDraft p []).withTimer { s.timer with
      draftCount := s.timer.draftCount.set p .stopped } := rfl

theorem setDraft_self (p : Port) (s : State) : s.setDraft p (s.draft p) = s := by
  rw [State.setDraft, State.draft, PerPort.set_get_self]
  rfl

theorem setDraftCount_self (p : Port) (s : State) :
    setDraftCount s p (s.timer.draftCount.get p) = s := by
  rw [setDraftCount, PerPort.set_get_self]
  rfl

/-- Nothing is left to empty: no item, and a STOPPED countdown. -/
theorem emptyDraft_of_empty {p : Port} {s : State} (hd : s.draft p = [])
    (hc : s.timer.draftCount.get p = .stopped) : emptyDraft p s = s := by
  have hset : s.setDraft p [] = s := by rw [← hd, setDraft_self]
  rw [emptyDraft, hd, endClaims_nil, hset, stopDraft, ← hc, setDraftCount_self]

/-! ### `draft_discard` served -/

/-- A command of the expected length passes the tests of R159 on a quiet port: it takes its path. -/
theorem judge_of_quiet {p : Port} {s : State} {o : Opcode} {ps : List Byte} (hq : quiet p s = true)
    (hlen : ps.length + 1 = expectedCount o) (hsup : supervisorOnly o = true → p = .P0) :
    judge s p (some o) ps = commandPath (s.port p) o ps := by
  simp only [quiet, takesAttached, Bool.and_eq_true, Bool.not_eq_eq_eq_not, Bool.not_true] at hq
  obtain ⟨⟨⟨-, hstart⟩, hatt⟩, -⟩ := hq
  have hsession : (s.port p).session = .attached := by simpa [State.attached] using hatt
  have hserved : ¬ (supervisorOnly o = true ∧ p ≠ .P0) := fun ⟨h, hp⟩ => hp (hsup h)
  simp only [judge, hstart, hlen, hsession, hserved, ne_eq, not_true_eq_false, reduceCtorEq,
    false_and, Bool.false_eq_true, if_false]

theorem served_draftDiscard {p : Port} {s : State} (hq : quiet p s = true) :
    served (.draftDiscard p []) s =
      .next (servedState p 0x3A 0 (okWith [count8 (s.draft p).length]) (sentByte p s)
        (emptyDraft p s)) :=
  served_table (o := .draftDiscard) (quiet_link hq)
    (judge_of_quiet hq rfl fun hsup => nomatch hsup)

/-- Settles O29: the discard is the emptied draft; the end of claims entry by entry, port by port, and its
frame. -/
theorem draftDiscarded : Obligations.DraftDiscarded := by
  refine ⟨fun p s hq => ⟨?discard, fun hd hc => ?nothingLeft⟩, fun items s =>
    ⟨endClaims_entry items s, endClaims_notice items s, endClaims_frame items s⟩⟩
  case discard => rw [served_draftDiscard hq, emptyDraft_eq]
  case nothingLeft =>
    rw [served_draftDiscard hq, emptyDraft_of_empty hd hc, hd]
    rfl

end Sys2Proof.Proofs
end

