-- ==== Sys2Proof/Proofs/Notices.lean ====
section
/-! PROOF. The notice commands (R138 to R145): the gate after each of them as one record equation, a
notice command answered at its take, and the refusal of a mask that names more than the seven flags. -/

namespace Sys2Proof.Proofs
open Sys2Proof.Machine

/-! ### The gate's tests as one outcome (R138, R139) -/

/-- The gate that a test of the enabled flags leaves: RAISED if one of them is set, else ARMED. -/
def testedGate (n : NoticeUnit) : Gate := if enabledPending n then .raised else .armed

/-- The raise test on a gate that goes to ARMED (R139). -/
theorem raiseTest_armed (n : NoticeUnit) :
    raiseTest { n with gate := .armed } = { n with gate := testedGate n } := by
  have hpending : enabledPending { n with gate := .armed } = enabledPending n := rfl
  by_cases h : enabledPending n = true <;> simp [raiseTest, testedGate, hpending, h]

/-- A RAISED gate keeps to the same outcome (R143, R144). -/
theorem lowerTest_of_raised {n : NoticeUnit} (hg : n.gate = .raised) :
    lowerTest n = { n with gate := testedGate n } := by
  by_cases h : enabledPending n = true
  · simp [lowerTest, testedGate, h, ← hg]
  · simp [lowerTest, testedGate, h, hg]

/-- The port's nATTN output is low in RAISED alone (R138). -/
theorem nattnLow_iff (n : NoticeUnit) : nattnLow n = true ↔ n.gate = .raised := by
  simp [nattnLow]

/-! ### The gate under each command (R140 to R144) -/

theorem noticeGateOn_eq (n : NoticeUnit) :
    noticeGateOn n =
      { n with gate := if n.gate = .disarmed then testedGate n else n.gate } := by
  unfold noticeGateOn
  split
  next hg => rw [raiseTest_armed, if_pos hg]
  all_goals next hg => rw [if_neg (by simp [hg])]

theorem noticeRearm_eq (n : NoticeUnit) :
    noticeRearm n =
      { n with gate := if n.gate = .servicing then testedGate n else n.gate } := by
  unfold noticeRearm
  split
  next hg => rw [raiseTest_armed, if_pos hg]
  all_goals next hg => rw [if_neg (by simp [hg])]

theorem noticeTake_eq (n : NoticeUnit) :
    noticeTake n = { n with gate := if n.gate = .raised then .servicing else n.gate } := by
  unfold noticeTake
  split
  next hg => rw [if_pos hg]
  all_goals next hg => rw [if_neg (by simp [hg])]

/-- The flags of a mask cleared, nothing else changed. -/
def clearFlags (mask : NoticeFlags) (n : NoticeUnit) : NoticeUnit :=
  { n with flags := n.flags &&& ~~~mask }

theorem noticeDone_eq (mask : NoticeFlags) (n : NoticeUnit) :
    noticeDone mask n =
      { clearFlags mask n with
        gate := if n.gate = .servicing ∨ n.gate = .raised then testedGate (clearFlags mask n)
          else n.gate } := by
  unfold noticeDone
  split
  next hg => rw [if_pos (.inl hg)]; exact raiseTest_armed (clearFlags mask n)
  next hg => rw [if_pos (.inr hg)]; exact lowerTest_of_raised (n := clearFlags mask n) hg
  all_goals next hg => rw [if_neg (by simp [hg])]; rfl

theorem noticeClear_eq (mask : NoticeFlags) (n : NoticeUnit) :
    noticeClear mask n =
      { clearFlags mask n with
        gate := if n.gate = .raised then testedGate (clearFlags mask n) else n.gate } := by
  unfold noticeClear
  split
  next hg => rw [if_pos hg]; exact lowerTest_of_raised (n := clearFlags mask n) hg
  all_goals next hg => rw [if_neg (by simp [hg])]; rfl

/-! ### A notice command at its take (R145, R159) -/

/-- A command of the expected length passes the tests of R159 on an ATTACHED port, whatever the arbiter
does: it takes its path. -/
theorem judge_of_takesAttached {p : Port} {s : State} {o : Opcode} {ps : List Byte}
    (ht : takesAttached p s = true) (hlen : ps.length + 1 = expectedCount o)
    (hsup : supervisorOnly o = true → p = .P0) :
    judge s p (some o) ps = commandPath (s.port p) o ps := by
  simp only [takesAttached, Bool.and_eq_true, Bool.not_eq_eq_eq_not, Bool.not_true] at ht
  obtain ⟨⟨-, hstart⟩, hatt⟩ := ht
  have hsession : (s.port p).session = .attached := by simpa [State.attached] using hatt
  rw [judge, hstart, if_neg Bool.false_ne_true, if_neg (not_not_intro hlen),
    if_neg (by simp [hsession]), if_neg fun ⟨h, hp⟩ => hp (hsup h)]

theorem takesAttached_takes {p : Port} {s : State} (h : takesAttached p s = true) :
    takes p s = true := by
  simp only [takesAttached, Bool.and_eq_true] at h
  obtain ⟨⟨htakes, -⟩, -⟩ := h
  exact htakes

section
variable {p : Port} {s : State} {o : Opcode} {ps : List Byte}

/-- A notice command acts at its take and answers the Notice Unit as it then stands. -/
theorem exec_notice {c : NoticeCmd} (ht : takesAttached p s = true)
    (hlen : ps.length + 1 = expectedCount o) (hsup : supervisorOnly o = true → p = .P0)
    (hpath : commandPath (s.port p) o ps = .atTake (.notice c)) :
    exec (rowOf o p ps) s =
      .next (answeredState p (opcodeByte o) ps.length
        (okWith (noticePayload (noticeStep c (s.notice p)))) (sentByte p s)
        (s.setNotice p (noticeStep c (s.notice p)))) :=
  exec_atTake (takesAttached_takes ht) ((judge_of_takesAttached ht hlen hsup).trans hpath)

/-- A command whose parameter fails the Port Unit's check changes nothing (R159). -/
theorem exec_badParam (ht : takesAttached p s = true)
    (hlen : ps.length + 1 = expectedCount o) (hsup : supervisorOnly o = true → p = .P0)
    (hpath : commandPath (s.port p) o ps = .refused (bare .badParam)) :
    exec (rowOf o p ps) s =
      .next (answeredState p (opcodeByte o) ps.length (bare .badParam) (sentByte p s) s) :=
  exec_refused (takesAttached_takes ht) ((judge_of_takesAttached ht hlen hsup).trans hpath)

end

theorem maskPath_of_valid {m : Byte} (h : m.getLsbD 7 = false) (f : NoticeFlags → NoticeCmd) :
    maskPath m f = .atTake (.notice (f (m.setWidth 7))) := by
  have hmask : maskOf m = some (m.setWidth 7) := if_neg (ne_true_of_eq_false h)
  rw [maskPath, hmask, pathOr]

theorem maskPath_of_invalid {m : Byte} (h : m.getLsbD 7 = true) (f : NoticeFlags → NoticeCmd) :
    maskPath m f = .refused (bare .badParam) := by
  have hmask : maskOf m = none := if_pos h
  rw [maskPath, hmask, pathOr]

/-! ### The obligations -/

/-- Settles O11: both commands act at the take, and the gates are those of `noticeGateOn_eq` and
`noticeGateOff`. -/
theorem gateOnOff : Obligations.GateOnOff := by
  intro p s ht
  refine ⟨noticeGateOn (s.notice p), noticeGateOff (s.notice p),
    exec_notice (o := .gateOn) (c := .gateOn) ht rfl nofun rfl,
    exec_notice (o := .gateOff) (c := .gateOff) ht rfl nofun rfl,
    fun hg => ?disarmed, fun hg => ?otherwise, rfl, rfl, fun hg hpending => ?lowersNattn⟩
  case disarmed => rw [noticeGateOn_eq, if_pos hg]; rfl
  case otherwise => rw [noticeGateOn_eq, if_neg hg]
  case lowersNattn =>
    rw [noticeGateOn_eq, nattnLow_iff, if_pos hg]
    exact if_pos hpending

/-- Settles O12: both commands act at the take, and the gates are those of `noticeTake_eq` and
`noticeRearm_eq`. -/
theorem takeAndRearm : Obligations.TakeAndRearm := by
  refine ⟨fun p s ht => ?take, fun p s ht => ?rearm⟩
  case take =>
    have hpayload : noticePayload (noticeTake (s.notice p)) =
        [flagsByte (s.notice p).flags, flagsByte (s.notice p).enables,
          gateByte (noticeTake (s.notice p)).gate] ++ count16 (s.notice p).changed.length := by
      rw [noticeTake_eq]; rfl
    refine ⟨noticeTake (s.notice p), ?answer, noticeTake_eq _, ?nattn⟩
    case answer =>
      rw [← hpayload]
      exact exec_notice (o := .takeNotices) (c := .take) ht rfl nofun rfl
    case nattn =>
      rw [noticeTake_eq, ← Bool.not_eq_true, nattnLow_iff]
      by_cases hg : (s.notice p).gate = .raised <;> simp [hg]
  case rearm =>
    refine ⟨noticeRearm (s.notice p),
      exec_notice (o := .noticeRearm) (c := .rearm) ht rfl nofun rfl,
      fun hg => ?servicing, fun hg => ?otherwise⟩
    case servicing => rw [noticeRearm_eq, if_pos hg]; rfl
    case otherwise => rw [noticeRearm_eq, if_neg hg]

/-- Settles O13: bit 7 of the mask decides between the refusal and the take; the gates are those of
`noticeDone_eq` and `noticeClear_eq`, state by state. -/
theorem noticeDoneAndClear : Obligations.NoticeDoneAndClear := by
  intro p s m ht
  refine ⟨fun hm => ⟨?doneRefused, ?clearRefused⟩, fun hm => ?taken⟩
  case doneRefused =>
    exact exec_badParam (o := .noticeDone) ht rfl nofun (maskPath_of_invalid hm _)
  case clearRefused =>
    exact exec_badParam (o := .noticeClear) ht rfl nofun (maskPath_of_invalid hm _)
  case taken =>
    refine ⟨noticeDone (m.setWidth 7) (s.notice p), noticeClear (m.setWidth 7) (s.notice p),
      exec_notice (o := .noticeDone) (c := .done _) ht rfl nofun (maskPath_of_valid hm _),
      exec_notice (o := .noticeClear) (c := .clear _) ht rfl nofun (maskPath_of_valid hm _),
      ?done, ?clear⟩
    case done =>
      rw [noticeDone_eq]
      cases (s.notice p).gate <;> rfl
    case clear =>
      rw [noticeClear_eq]
      cases (s.notice p).gate <;> rfl

end Sys2Proof.Proofs
end

/-! PROOF. The tests of a taken command (R159), one lemma on `judge` for each test in its order, the
parameter checks of test 6, and the refusal of an unknown opcode. -/

namespace Sys2Proof.Proofs
open Sys2Proof.Machine

/-! ### The tests of R159 in their order -/

section
variable {p : Port} {s : State} {o : Opcode} {ps : List Byte}

/-- Test 1: it comes before the sorting of the opcode, so it answers an unknown opcode as well. -/
theorem judge_of_startup (hstart : s.save.startup = true) (sorted : Option Opcode) :
    judge s p sorted ps = .refused (bare .notReady) := by
  unfold judge
  exact if_pos hstart

/-- Test 2. -/
theorem judge_of_unknown (hstart : s.save.startup = false) :
    judge s p none ps = .refused (bare .badOpcode) := by
  unfold judge
  exact if_neg (ne_true_of_eq_false hstart)

/-- Test 3. -/
theorem judge_of_wrongLength (hstart : s.save.startup = false)
    (hlen : ps.length + 1 ≠ expectedCount o) :
    judge s p (some o) ps = .refused { status := .length, payload :=
      [count8 (expectedCount o), count8 (min (ps.length + 1) 255)] } := by
  rw [judge, if_neg (ne_true_of_eq_false hstart), if_pos hlen]

theorem session_of_not_attached (hatt : s.attached p = false) :
    (s.port p).session = .detached := by
  unfold State.attached at hatt
  cases hsession : (s.port p).session with
  | detached => rfl
  | attached => simp [hsession] at hatt

theorem allowedDetached_eq_false (hattach : o ≠ .attach) (hstatus : o ≠ .getDeviceStatus) :
    allowedDetached o = false := by
  simp [allowedDetached, hattach, hstatus]

/-- Test 4. -/
theorem judge_of_detached (hstart : s.save.startup = false)
    (hlen : ps.length + 1 = expectedCount o) (hatt : s.attached p = false)
    (hallowed : allowedDetached o = false) :
    judge s p (some o) ps = .refused (bare .notAttached) := by
  rw [judge, if_neg (ne_true_of_eq_false hstart), if_neg (not_not_intro hlen),
    if_pos ⟨session_of_not_attached hatt, hallowed⟩]

/-- Test 5. -/
theorem judge_of_notSupervisor (hstart : s.save.startup = false)
    (hlen : ps.length + 1 = expectedCount o) (hatt : s.attached p = true)
    (hsup : supervisorOnly o = true) (hp : p ≠ .P0) :
    judge s p (some o) ps = .refused (bare .notSupervisor) := by
  have hsession : (s.port p).session = .attached := by simpa [State.attached] using hatt
  rw [judge, if_neg (ne_true_of_eq_false hstart), if_neg (not_not_intro hlen),
    if_neg (by simp [hsession]), if_pos ⟨hsup, hp⟩]

/-- What is left to test 6, whose path `judge_of_takesAttached` gives. -/
theorem takesAttached_of_takes (ht : takes p s = true) (hstart : s.save.startup = false)
    (hatt : s.attached p = true) : takesAttached p s = true := by
  simp [takesAttached, ht, hstart, hatt]

end

/-! ### The parameter checks of test 6 -/

theorem lt_of_sliceOf_eq_some {b : Byte} {w : Slice} (h : sliceOf b = some w) : b.toNat < 32 := by
  by_contra hge
  rw [sliceOf, dif_neg hge] at h
  exact nomatch h

theorem sliceOf_eq_none {b : Byte} (h : 32 ≤ b.toNat) : sliceOf b = none := dif_neg h.not_gt

theorem handleOf_eq_none {b : Byte} (h : 16 ≤ b.toNat) : handleOf b = none := dif_neg h.not_gt

theorem pathOr_slice_outOfRange {b : Byte} (h : 32 ≤ b.toNat) (f : Slice → Path) :
    pathOr (sliceOf b) f = .refused (bare .badParam) := by
  rw [sliceOf_eq_none h, pathOr]

theorem handlePath_outOfRange {b : Byte} (h : 16 ≤ b.toNat) (u : PortUnit) (f : Index → TableCmd) :
    handlePath u b f = .refused (bare .badParam) := by
  rw [handlePath, handleOf_eq_none h, pathOr]

/-- `set_windows` with a slice out of range answers the windows still in force (R31). -/
theorem setWindows_path_outOfRange (u : PortUnit) {a b : Byte}
    (h : ¬ (a.toNat < 32 ∧ b.toNat < 32)) :
    commandPath u .setWindows [a, b] =
      .refused { status := .badParam, payload := [sliceByte u.win0, sliceByte u.win1] } := by
  simp only [commandPath]
  split
  next w0 w1 h0 h1 => exact absurd ⟨lt_of_sliceOf_eq_some h0, lt_of_sliceOf_eq_some h1⟩ h
  next => rfl

theorem draftView_path_outOfRange (u : PortUnit) {a : Byte} (h : a = 0 ∨ 16 < a.toNat) :
    commandPath u .draftView [a] = .refused (bare .badParam) :=
  if_pos h

theorem findTag_path_zero (u : PortUnit) :
    commandPath u .findTag [0, 0] = .refused (bare .badParam) := by
  have hzero : wordAt [0, 0] 1 = 0 := by decide
  rw [commandPath, if_pos hzero]

/-! ### The refusal of an unknown opcode -/

theorem byteTransaction_of_not_portRead {b : Byte} (hb : isPortRead b = false) (p : Port)
    (ps : List Byte) (s : State) :
    byteTransaction p b ps s = commandTransaction p b (opcodeOf b) ps s := by
  simp only [isPortRead, Bool.or_eq_false_iff, beq_eq_false_iff_ne] at hb
  obtain ⟨hstatus, hresult⟩ := hb
  rw [byteTransaction, if_neg hstatus, if_neg hresult]

theorem setPort_port_self (s : State) (p : Port) : s.setPort p (s.port p) = s := by
  cases p <;> rfl

theorem setPort_unit_none_of_takes {p : Port} {s : State} (ht : takes p s = true) :
    s.setPort p { s.port p with unit := none } = s := by
  simp only [takes, Bool.and_eq_true, Option.isNone_iff_eq_none] at ht
  obtain ⟨-, hunit⟩ := ht
  rw [← hunit]
  exact setPort_port_self s p

theorem exec_unknownOpcode_refused {p : Port} {b : Byte} {ps : List Byte} {s : State} {a : Answer}
    (ht : takes p s = true) (hb : isPortRead b = false)
    (hj : judge s p (opcodeOf b) ps = .refused a) :
    exec (.unknownOpcode p b ps) s =
      .next (answeredState p b ps.length a (sentByte p s) s) := by
  have hexec : exec (.unknownOpcode p b ps) s = .next (byteTransaction p b ps s) := rfl
  rw [hexec, byteTransaction_of_not_portRead hb, commandTransaction_takes ht, take_refused b hj,
    setPort_unit_none_of_takes ht]

/-! ### The obligation -/

/-- Settles O6: each test is its `judge` lemma, and a refused command leaves what `exec_refused` and
`exec_unknownOpcode_refused` say; on an ATTACHED port the path of test 6 decides. -/
theorem refusalOrder : Obligations.RefusalOrder := by
  intro p s ht refused
  refine ⟨fun hstart => ⟨fun o ps => ?notReady, fun b ps hb => ?notReadyUnknown⟩,
    fun hstart => ⟨fun b ps hb hnone => ?badOpcode, fun o ps hlen => ?length,
      fun o ps hlen hatt hattach hstatus => ?notAttached, fun hatt => ?attached⟩⟩
  case notReady => exact exec_refused ht (judge_of_startup hstart _)
  case notReadyUnknown => exact exec_unknownOpcode_refused ht hb (judge_of_startup hstart _)
  case badOpcode =>
    exact exec_unknownOpcode_refused ht hb (hnone ▸ judge_of_unknown hstart)
  case length => exact exec_refused ht (judge_of_wrongLength hstart hlen)
  case notAttached =>
    exact exec_refused ht
      (judge_of_detached hstart hlen hatt (allowedDetached_eq_false hattach hstatus))
  case attached =>
    have hta := takesAttached_of_takes ht hstart hatt
    refine ⟨fun hp => ⟨?wipe, ?reload⟩, fun a b h => ?windows, ?tag, fun a h => ⟨?slice, ?subSlice⟩,
      fun a h => ⟨?handle, ?anchoredHandle, fun b c => ?stageHandle⟩, fun a h => ?position,
      fun a h => ⟨?enables, ?done, ?clear⟩⟩
    case wipe => exact exec_refused ht (judge_of_notSupervisor hstart rfl hatt rfl hp)
    case reload => exact exec_refused ht (judge_of_notSupervisor hstart rfl hatt rfl hp)
    case windows =>
      exact exec_refused ht
        ((judge_of_takesAttached (o := .setWindows) hta rfl nofun).trans (setWindows_path_outOfRange _ h))
    case tag => exact exec_badParam hta rfl nofun (findTag_path_zero _)
    case slice => exact exec_badParam hta rfl nofun (pathOr_slice_outOfRange h _)
    case subSlice => exact exec_badParam hta rfl nofun (pathOr_slice_outOfRange h _)
    case handle => exact exec_badParam hta rfl nofun (handlePath_outOfRange h _ _)
    case anchoredHandle => exact exec_badParam hta rfl nofun (handlePath_outOfRange h _ _)
    case stageHandle =>
      exact exec_badParam hta rfl nofun
        (handlePath_outOfRange h (s.port p) fun i => .stageSet i (b ++ c))
    case position => exact exec_badParam hta rfl nofun (draftView_path_outOfRange _ h)
    case enables => exact exec_badParam hta rfl nofun (maskPath_of_invalid h _)
    case done => exact exec_badParam hta rfl nofun (maskPath_of_invalid h _)
    case clear => exact exec_badParam hta rfl nofun (maskPath_of_invalid h _)

end Sys2Proof.Proofs

/-! PROOF. What one row can do to the part, said once: `Effect` lists the shared operations that the 63
rows come down to, and `step_effect` reduces a step to one of them. Every invariant of the part is then
proved over `Effect` and not over the rows. -/

namespace Sys2Proof.Proofs
open Sys2Proof.Machine

/-- The operations that the rows come down to, each with the condition under which a row performs it. -/
inductive Effect (s : State) : State → Prop where
  /-- Links, transactions, refusals and requests: Port Units alone (R151 to R162). -/
  | ports (f : PerPort PortUnit) : Effect s (s.withPorts f)
  /-- A command answered at its take, within its transaction (R161). -/
  | take (p : Port) (c : PortCmd) (f g : PerPort PortUnit) :
      Effect s ((runPortCmd p c (s.withPorts f)).1.withPorts g)
  /-- The time base (R49, R80). -/
  | timer (tm : LifetimeTimer) : Effect s (s.withTimer tm)
  | grantPort (p : Port) (h : nextGrant s = some (.pu p)) : Effect s (grantPort p s)
  | grantExpiry (e : Expiry) (n : Nat) (h : nextGrant s = some .timer) :
      Effect s (grantExpiry e (s.withPick n))
  | grantSave (r : SaveRequest) (h : nextGrant s = some .save) (hr : s.save.request = some r) :
      Effect s (grantSave r s)
  | complete : Effect s (completeOperation s)
  | erase (v : Bool) : Effect s (eraseComplete v s)
  | program (v : Bool) : Effect s (programComplete v s)
  | header (v : Bool) : Effect s (headerComplete v s)
  | reerase (v : Bool) : Effect s (reeraseComplete v s)
  | resetFalls : Effect s (resetFalls s)
  | resetRises : Effect s (resetRises s)
  | startupLoad (h : s.save.startup = true) : Effect s (startupLoad s)

/-- A row that leaves the state as it is (log 2). -/
theorem Effect.refl (s : State) : Effect s s := .ports s.ports

/-! ### Links and transactions -/

theorem beginTransaction_ports (p : Port) (s : State) :
    ∃ f, beginTransaction p s = s.withPorts f := by
  unfold beginTransaction
  split
  · split <;> exact ⟨_, rfl⟩
  · exact ⟨s.ports, rfl⟩

theorem endTransaction_ports (p : Port) (s : State) : ∃ f, endTransaction p s = s.withPorts f := by
  unfold endTransaction
  split
  · exact ⟨s.ports, rfl⟩
  all_goals exact ⟨_, rfl⟩

theorem portRead_ports (p : Port) (answer : Captured → List Byte) (extra : List Byte) (s : State) :
    ∃ f, portRead p answer extra s = s.withPorts f := by
  obtain ⟨f, hf⟩ := beginTransaction_ports p s
  simp only [portRead, hf]
  split <;> exact ⟨_, rfl⟩

theorem takeCommand_effect (p : Port) (b : Byte) (o : Option Opcode) (ps : List Byte) (s : State)
    (f : PerPort PortUnit) : Effect s (takeCommand p b o ps (s.withPorts f)) := by
  simp only [takeCommand]
  split
  next a _ => exact .ports _
  next c _ => exact .take p c _ _
  next c r _ => exact .ports _

theorem commandTransaction_effect (p : Port) (b : Byte) (o : Option Opcode) (ps : List Byte)
    (s : State) : Effect s (commandTransaction p b o ps s) := by
  obtain ⟨f, hf⟩ := beginTransaction_ports p s
  simp only [commandTransaction, hf]
  split
  next c _ =>
    obtain ⟨g, hg⟩ := endTransaction_ports p
      (shiftBytes p (c.statusByte :: List.replicate ps.length 0) (s.withPorts f))
    have hports : (shiftBytes p (c.statusByte :: List.replicate ps.length 0)
        (s.withPorts f)).withPorts g = s.withPorts g := rfl
    rw [hg, hports]
    split
    · exact .ports g
    · exact takeCommand_effect p b o ps s g
  next =>
    obtain ⟨g, hg⟩ := endTransaction_ports p (s.withPorts f)
    rw [hg]
    exact .ports g

theorem endedRead_effect (p : Port) (answer : Captured → List Byte) (extra : List Byte) (s : State) :
    Effect s (endTransaction p (portRead p answer extra s)) := by
  obtain ⟨f, hf⟩ := portRead_ports p answer extra s
  obtain ⟨g, hg⟩ := endTransaction_ports p (s.withPorts f)
  rw [hf, hg]
  exact .ports g

theorem byteTransaction_effect (p : Port) (b : Byte) (ps : List Byte) (s : State) :
    Effect s (byteTransaction p b ps s) := by
  unfold byteTransaction
  split
  · exact endedRead_effect p _ ps s
  · split
    · exact endedRead_effect p _ ps s
    · exact commandTransaction_effect p b _ ps s

/-! ### Grants and countdowns -/

theorem grantNext_effect (s : State) : Effect s (grantNext s) := by
  unfold grantNext
  split
  next => exact .refl s
  next p h => exact .grantPort p h
  next h =>
    unfold grantTimer
    split
    · exact .refl s
    · split
      · exact .grantExpiry _ _ h
      · exact .refl s
  next h =>
    split
    next r hr => exact .grantSave r h hr
    next => exact .refl s

theorem mayServe_nextGrant {e : Expiry} {s : State} (h : mayServe e s = true) :
    nextGrant s = some .timer := by
  simp only [mayServe, Bool.and_eq_true, beq_iff_eq] at h
  exact h.1

theorem servedExpiry_effect (e : Expiry) (s : State) :
    Effect s (if mayServe e s then grantExpiry e s else s) := by
  split
  next h => exact .grantExpiry e s.freePick (mayServe_nextGrant h)
  next => exact .refl s

theorem postExpiries_timer (es : List Expiry) (s : State) (tm : LifetimeTimer) :
    ∃ tm', postExpiries es (s.withTimer tm) = s.withTimer tm' := by
  simp only [postExpiries]
  split <;> exact ⟨_, rfl⟩

theorem postedExpiries_effect (es : List Expiry) (s : State) (tm : LifetimeTimer) (b : Bool) :
    Effect s (if b then postExpiries es (s.withTimer tm) else s) := by
  split
  · obtain ⟨tm', h⟩ := postExpiries_timer es s tm
    rw [h]
    exact .timer tm'
  · exact .refl s

/-! ### Rows and steps -/

/-- Every row answers a next state, and it is one of the effects. -/
theorem exec_effect (c : Instr) (s : State) : ∃ t, exec c s = .next t ∧ Effect s t := by
  cases c
  case ncsFall p =>
    obtain ⟨f, hf⟩ := beginTransaction_ports p s
    exact ⟨_, rfl, hf ▸ .ports f⟩
  case readStatus p extra =>
    obtain ⟨f, hf⟩ := portRead_ports p Captured.statusAnswer extra s
    exact ⟨_, rfl, hf ▸ .ports f⟩
  case readResult p extra =>
    obtain ⟨f, hf⟩ := portRead_ports p Captured.resultAnswer extra s
    exact ⟨_, rfl, hf ▸ .ports f⟩
  case transactionEnd p =>
    obtain ⟨f, hf⟩ := endTransaction_ports p s
    exact ⟨_, rfl, hf ▸ .ports f⟩
  case unknownOpcode p b ps => exact ⟨_, rfl, byteTransaction_effect p b ps s⟩
  case commandDiscard p b ps => exact ⟨_, rfl, byteTransaction_effect p b ps s⟩
  case tableOperationGrant => exact ⟨_, rfl, grantNext_effect s⟩
  case tableOperationCompletion => exact ⟨_, rfl, .complete⟩
  case timeBaseStep => exact ⟨_, rfl, postedExpiries_effect _ s _ _⟩
  case draftCountdownElapsed p => exact ⟨_, rfl, postedExpiries_effect _ s _ _⟩
  case anchorCountdownElapsed p => exact ⟨_, rfl, postedExpiries_effect _ s _ _⟩
  case draftExpiry p => exact ⟨_, rfl, servedExpiry_effect (.draft p) s⟩
  case anchorExpiry p => exact ⟨_, rfl, servedExpiry_effect (.anchor p) s⟩
  case saveEraseComplete v => exact ⟨_, rfl, .erase v⟩
  case recordProgramComplete v => exact ⟨_, rfl, .program v⟩
  case headerWriteComplete v => exact ⟨_, rfl, .header v⟩
  case headerReeraseComplete v => exact ⟨_, rfl, .reerase v⟩
  case nresetFall => exact ⟨_, rfl, .resetFalls⟩
  case nresetRise => exact ⟨_, rfl, .resetRises⟩
  case sessionEnd p =>
    refine ⟨_, rfl, ?_⟩
    split
    next h => exact .grantPort p h.1
    next => exact .refl s
  case saveCopy =>
    refine ⟨_, rfl, ?_⟩
    split
    next h => exact .grantSave .copy h.1 h.2
    next => exact .refl s
  case saveEnd =>
    refine ⟨_, rfl, ?_⟩
    split
    next h => exact .grantSave .finish h.1 h.2
    next => exact .refl s
  case startupLoad =>
    refine ⟨_, rfl, ?_⟩
    split
    next h => exact .startupLoad (Bool.and_eq_true _ _ ▸ h).2
    next => exact .refl s
  all_goals exact ⟨_, rfl, commandTransaction_effect _ _ _ _ s⟩

theorem effect_of_exec {c : Instr} {s t : State} (h : exec c s = .next t) : Effect s t := by
  obtain ⟨u, hu, he⟩ := exec_effect c s
  rw [hu] at h
  cases h
  exact he

/-- A step idles, or has one effect on the state with the queue's rest. -/
theorem effect_of_step {s t : State} (h : step s = .next t) : ∃ q, Effect (s.withPending q) t := by
  unfold step at h
  split at h
  next => cases h; exact ⟨s.pending, .refl s⟩
  next c rest _ => exact ⟨rest, effect_of_exec h⟩

end Sys2Proof.Proofs

/-! PROOF. The changes of a Notice Unit and of the Table Controller, each kind once (`NoticeMove`,
`TableMove`), and what the work of each operation is in these terms. -/

namespace Sys2Proof.Proofs
open Sys2Proof.Machine

/-! ### Changes of a Notice Unit -/

/-- What may happen to one Notice Unit (R134, R136 to R144, R148). -/
inductive NoticeMove : NoticeUnit → NoticeUnit → Prop where
  | delivery (d : Delivery) (n : NoticeUnit) : NoticeMove n (applyDelivery d n)
  | command (c : NoticeCmd) (n : NoticeUnit) : NoticeMove n (noticeStep c n)
  | clear (n : NoticeUnit) : NoticeMove n clearNotice
  | next (n : NoticeUnit) (i : Index) (rest : IndexSet) (h : n.changed = i :: rest) :
      NoticeMove n { n with changed := rest }

/-- Every Notice Unit has made some moves. -/
def NoticesMoved (s t : State) : Prop :=
  ∀ q, Relation.ReflTransGen NoticeMove (s.notice q) (t.notice q)

theorem NoticesMoved.of_eq {s t : State} (h : t.notices = s.notices) : NoticesMoved s t := by
  intro q
  rw [State.notice, State.notice, h]

theorem NoticesMoved.trans {s t u : State} (h : NoticesMoved s t) (h' : NoticesMoved t u) :
    NoticesMoved s u :=
  fun q => (h q).trans (h' q)

theorem NoticesMoved.deliver (f : Port → Delivery) (s : State) :
    NoticesMoved s (deliver f s) := by
  intro q
  rw [deliver_notice]
  split
  · exact .single (.delivery _ _)
  · exact .refl

theorem NoticesMoved.setNotice {p : Port} {s : State} {n : NoticeUnit}
    (h : NoticeMove (s.notice p) n) : NoticesMoved s (s.setNotice p n) := by
  intro q
  rw [setNotice_notice_if]
  split
  next hq => subst hq; exact .single h
  next => exact .refl

/-! ### Changes of the Table Controller -/

/-- The vacate test on the Table Controller (R116). -/
def vacated (t : TableController) : TableController :=
  { t with entries := mapEntries (vacateEntry (heldAnchors t)) t.entries }

theorem vacateTest_table (s : State) : (vacateTest s).table = vacated s.table := rfl

/-- A draft emptied with its claims ended (R75). -/
def emptied (p : Port) (t : TableController) : TableController :=
  { t with
    entries := dropClaims t.entries (t.drafts.get p)
    drafts := t.drafts.set p [] }

/-- The same subscribers changed entry by entry, nothing else. -/
def Resubscribed (t : TableController) (e : Entries) : Prop :=
  ∀ i, ∃ f, e.get i = (t.entries.get i).mapSubscribers f

/-- Every subscription and every wait of a port dropped (R167). -/
def forgotten (p : Port) (t : TableController) : TableController :=
  { t with
    entries := mapEntries (fun e => { e with waiters := PortSet.drop e.waiters p })
      (mapEntries (Entry.mapSubscribers fun ps => PortSet.drop ps p) t.entries) }

/-- The table of an accepted release (R102 to R107). -/
def released (p : Port) (t : TableController) : TableController :=
  let t' := releasedTable p (t.drafts.get p)
    (postState p (t.g + 1) (t.drafts.get p) t.entries) t
  if (t.drafts.get p).any Item.isRetire then vacated t' else t'

/-- The one change that an operation of a port or of the Lifetime Timer makes in the Table Controller, with
the tests it has passed. The save anchor stays. -/
inductive CoreMove (t : TableController) : TableController → Prop where
  /-- Subscriptions made or dropped (R127 to R130). -/
  | subscribe (e : Entries) (h : Resubscribed t e) : CoreMove t { t with entries := e }
  /-- A stage refused CLAIMED (R74). -/
  | wait (p q : Port) (i : Index) (h : (t.entries.get i).claim = some q) (hne : q ≠ p) :
      CoreMove t { t with entries := (t.entries.set i.val
        { t.entries.get i with waiters := PortSet.add (t.entries.get i).waiters p } i.isLt) }
  /-- An item created with its claim (R62, R73). -/
  | create (p : Port) (i : Index) (c : Change)
      (hclaim : (t.entries.get i).claim = none ∨
        ((t.entries.get i).claim = some p ∧ itemFor (t.drafts.get p) i = none))
      (hspace : (t.drafts.get p).length < 16)
      (hstate : if (Item.mk i c).isDefine then (t.entries.get i).isVacant = true
        else (t.entries.get i).isLive = true) :
      CoreMove t { t with
        drafts := t.drafts.set p (t.drafts.get p ++ [{ index := i, change := c }])
        entries := t.entries.set i.val { t.entries.get i with claim := some p } i.isLt }
  /-- A stage merged into an item, which stays a DEFINE or stays none (R71). -/
  | merge (p : Port) (i : Index) (c : Change) (it : Item)
      (hitem : itemFor (t.drafts.get p) i = some it)
      (hkind : (Item.mk i c).isDefine = it.isDefine) :
      CoreMove t { t with drafts := t.drafts.set p (replaceItem (t.drafts.get p) i c) }
  /-- An item taken out, its claim ended (R75, R77). -/
  | takeOut (p : Port) (i : Index) :
      CoreMove t { t with
        entries := dropClaims t.entries ((t.drafts.get p).filter fun it => it.index == i)
        drafts := t.drafts.set p (removeItem (t.drafts.get p) i) }
  | empty (p : Port) : CoreMove t (emptied p t)
  /-- A session end (R167). -/
  | sessionEnd (p : Port) :
      CoreMove t (vacated (forgotten p
        { emptied p t with anchors := t.anchors.set p none }))
  /-- `anchor_set` (R46). -/
  | anchor (p : Port) : CoreMove t (vacated { t with anchors := t.anchors.set p (some t.g) })
  /-- `anchor_drop` and an anchor expiry (R47, R50). -/
  | unanchor (p : Port) : CoreMove t (vacated { t with anchors := t.anchors.set p none })
  /-- An accepted release (R87). -/
  | release (p : Port) (hg : t.g ≠ Config.lastGen)
      (hpass : firstFailure t.dependents (postState p (t.g + 1) (t.drafts.get p) t.entries)
        (t.drafts.get p) = none) :
      CoreMove t (released p t)

/-- The records that a load of the Retained Store would read (R175, R190). -/
def storedImage (st : RetainedStore) : List RetainedRecord :=
  match selectBank st with
  | some n => (st.get n).records.take (st.get n).count
  | none => []

/-- The one change that a row makes in the Table Controller; `im` is the image that a load would read. -/
inductive TableMove (im : List RetainedRecord) (t : TableController) : TableController → Prop where
  | core (t' : TableController) (h : CoreMove t t') : TableMove im t t'
  /-- `save_start` (R178). -/
  | saveAnchor : TableMove im t { t with saveAnchor := some t.g }
  /-- The end of a save (R185). -/
  | unsaveAnchor : TableMove im t (vacated { t with saveAnchor := none })
  /-- A wipe or a chip reset (R23, R26). -/
  | wipe : TableMove im t resetTable
  /-- A wipe and a load (R190, R191). -/
  | load : TableMove im t (im.foldl loadRecord resetTable)

/-! ### The work of an operation on the table -/

/-- The fields that no work on the table touches: all but the Table Controller, the Notice Units and the
Lifetime Timer. -/
structure SameButTable (s t : State) : Prop where
  nreset : t.nreset = s.nreset
  ports : t.ports = s.ports
  arbiter : t.arbiter = s.arbiter
  save : t.save = s.save
  store : t.store = s.store
  freePick : t.freePick = s.freePick
  pending : t.pending = s.pending

theorem SameButTable.refl (s : State) : SameButTable s s := ⟨rfl, rfl, rfl, rfl, rfl, rfl, rfl⟩

theorem SameButTable.trans {s t u : State} (h : SameButTable s t) (h' : SameButTable t u) :
    SameButTable s u :=
  ⟨h'.nreset.trans h.nreset, h'.ports.trans h.ports, h'.arbiter.trans h.arbiter,
    h'.save.trans h.save, h'.store.trans h.store, h'.freePick.trans h.freePick,
    h'.pending.trans h.pending⟩

theorem SameButTable.withTable (s : State) (t : TableController) : SameButTable s (s.withTable t) :=
  ⟨rfl, rfl, rfl, rfl, rfl, rfl, rfl⟩

theorem SameButTable.withNotices (s : State) (n : PerPort NoticeUnit) :
    SameButTable s (s.withNotices n) :=
  ⟨rfl, rfl, rfl, rfl, rfl, rfl, rfl⟩

theorem SameButTable.withTimer (s : State) (t : LifetimeTimer) : SameButTable s (s.withTimer t) :=
  ⟨rfl, rfl, rfl, rfl, rfl, rfl, rfl⟩

theorem SameButTable.endClaims (items : List Item) (s : State) :
    SameButTable s (endClaims items s) :=
  (withTable s _).trans (withNotices _ _)

theorem SameButTable.emptyDraft (p : Port) (s : State) : SameButTable s (emptyDraft p s) :=
  ((endClaims _ s).trans (withTable _ _)).trans (withTimer _ _)

theorem SameButTable.takeOut (p : Port) (i : Index) (s : State) : SameButTable s (takeOut p i s) :=
  (endClaims _ s).trans (withTable _ _)

theorem SameButTable.sessionEndWork (p : Port) (s : State) :
    SameButTable s (sessionEndWork p s) :=
  ((((((emptyDraft p s).trans (withTable _ _)).trans (withTable _ _)).trans (withTable _ _)).trans
    (withTimer _ _)).trans (withTimer _ _)).trans (withNotices _ _)

/-- Work that touches the Table Controller, the Notice Units and the Lifetime Timer alone, by at most one
move of the table. -/
structure TableWork (s t : State) : Prop where
  frame : SameButTable s t
  notices : NoticesMoved s t
  table : t.table = s.table ∨ CoreMove s.table t.table

theorem TableWork.refl (s : State) : TableWork s s :=
  ⟨.refl s, .of_eq rfl, .inl rfl⟩

/-- Work that delivers nothing: the move of the table is all there is to say. -/
theorem TableWork.silent {s t : State} (hn : t.notices = s.notices)
    (hf : SameButTable s t)
    (h : CoreMove s.table t.table) : TableWork s t :=
  ⟨hf, .of_eq hn, .inr h⟩

theorem mapSubscribers_id (e : Entry) : e.mapSubscribers id = e := by
  unfold Entry.mapSubscribers
  split
  · rfl
  next r h => cases e; cases h; rfl
  next r g h => cases e; cases h; rfl

theorem TableWork.resubscribe {s : State} {e : Entries} (h : Resubscribed s.table e) :
    TableWork s (s.withEntries e) :=
  .silent rfl ⟨rfl, rfl, rfl, rfl, rfl, rfl, rfl⟩ (.subscribe e h)

/-- A resubscription of one entry. -/
theorem resubscribed_set (t : TableController) (i : Index) (f : PortSet → PortSet) :
    Resubscribed t (t.entries.set i.val ((t.entries.get i).mapSubscribers f) i.isLt) := by
  intro j
  rw [get_set_entries]
  split
  next h => subst h; exact ⟨f, rfl⟩
  next => exact ⟨id, (mapSubscribers_id _).symm⟩

theorem mapSubscribers_comp (e : Entry) (f g : PortSet → PortSet) :
    (e.mapSubscribers f).mapSubscribers g = e.mapSubscribers (g ∘ f) := by
  obtain ⟨c, cl, w⟩ := e
  cases c <;> rfl

theorem Resubscribed.trans {t : TableController} {e e' : Entries} (h : Resubscribed t e)
    (h' : Resubscribed { t with entries := e } e') : Resubscribed t e' := by
  intro i
  obtain ⟨f, hf⟩ := h i
  obtain ⟨g, hg⟩ := h' i
  have hg' : e'.get i = (e.get i).mapSubscribers g := hg
  exact ⟨g ∘ f, by rw [hg', hf, mapSubscribers_comp]⟩

/-! ### Drafts -/

theorem endClaims_moved (items : List Item) (s : State) : NoticesMoved s (endClaims items s) :=
  .deliver _ (s.withEntries (dropClaims s.table.entries items))

theorem emptyDraft_work (p : Port) (s : State) : TableWork s (emptyDraft p s) :=
  ⟨⟨rfl, rfl, rfl, rfl, rfl, rfl, rfl⟩, endClaims_moved (s.draft p) s, .inr (.empty p)⟩

theorem takeOut_moved (p : Port) (i : Index) (s : State) : NoticesMoved s (takeOut p i s) :=
  endClaims_moved _ s

theorem takeOut_table (p : Port) (i : Index) (s : State) :
    CoreMove s.table (takeOut p i s).table :=
  .takeOut p i

theorem withdrawDefine_work (p : Port) (i : Index) (s : State) :
    TableWork s (withdrawDefine p i s).1 := by
  simp only [withdrawDefine]
  split <;> exact ⟨⟨rfl, rfl, rfl, rfl, rfl, rfl, rfl⟩, takeOut_moved p i s, .inr (takeOut_table p i s)⟩

theorem opDraftRemove_work (p : Port) (i : Index) (s : State) :
    TableWork s (opDraftRemove p i s).1 := by
  simp only [opDraftRemove]
  split
  · exact .refl s
  · split <;> exact ⟨⟨rfl, rfl, rfl, rfl, rfl, rfl, rfl⟩, takeOut_moved p i s, .inr (takeOut_table p i s)⟩

theorem opDraftExpiry_work (p : Port) (s : State) : TableWork s (opDraftExpiry p s) := by
  unfold opDraftExpiry
  split
  · exact ⟨⟨rfl, rfl, rfl, rfl, rfl, rfl, rfl⟩, (emptyDraft_work p s).notices.trans (.deliver _ _), .inr (.empty p)⟩
  · exact .refl s

theorem refuseClaimed_work {p q : Port} {i : Index} {s : State}
    (h : (s.entry i).claim = some q) (hne : q ≠ p) : TableWork s (refuseClaimed p q i s).1 :=
  .silent rfl ⟨rfl, rfl, rfl, rfl, rfl, rfl, rfl⟩ (.wait p q i h hne)

theorem otherClaimant_some {p q : Port} {i : Index} {s : State}
    (h : otherClaimant p i s = some q) : (s.entry i).claim = some q ∧ q ≠ p := by
  unfold otherClaimant at h
  split at h
  next r hr =>
    split at h
    · cases h
    next hne => cases h; exact ⟨hr, hne⟩
  · cases h

theorem otherClaimant_none {p : Port} {i : Index} {s : State} (h : otherClaimant p i s = none) :
    (s.entry i).claim = none ∨ (s.entry i).claim = some p := by
  unfold otherClaimant at h
  split at h
  next r hr =>
    split at h
    next heq => subst heq; exact .inr hr
    · cases h
  next hr => exact .inl hr

theorem length_lt_of_not_full {p : Port} {s : State} (h : ¬ draftIsFull p s = true) :
    (s.draft p).length < 16 := by
  exact Nat.lt_of_not_le fun hle => h (decide_eq_true hle)

theorem stageNew_work {p : Port} {i : Index} {c : Change} {s : State}
    (hclaim : (s.entry i).claim = none ∨
      ((s.entry i).claim = some p ∧ itemFor (s.draft p) i = none))
    (hstate : if (Item.mk i c).isDefine then (s.entry i).isVacant = true
      else (s.entry i).isLive = true) : TableWork s (stageNew p i c s).1 := by
  unfold stageNew
  split
  · exact .refl s
  next hfull =>
    exact .silent rfl ⟨rfl, rfl, rfl, rfl, rfl, rfl, rfl⟩ (.create p i c hclaim (length_lt_of_not_full hfull) hstate)

theorem stageMerged_work {p : Port} {i : Index} {c : Change} {it : Item} {s : State}
    (hitem : itemFor (s.draft p) i = some it)
    (hkind : (Item.mk i c).isDefine = it.isDefine) : TableWork s (stageMerged p i c s).1 :=
  .silent rfl ⟨rfl, rfl, rfl, rfl, rfl, rfl, rfl⟩ (.merge p i c it hitem hkind)

/-- Without an item for it, an entry that passes the state test is LIVE (R65). -/
theorem live_of_entryStateTest {p : Port} {i : Index} {s : State}
    (h : entryStateTest p i s = none) (hitem : itemFor (s.draft p) i = none) :
    (s.entry i).isLive = true := by
  unfold entryStateTest at h
  split at h
  · cases h
  · simp [ownDefine, hitem] at h
  next r hr => simp [Entry.isLive, Entry.live?, hr]

theorem stageChange_work {p : Port} {i : Index} {merge : Change → Option Change} {fresh : Change}
    {s : State} (hstate : entryStateTest p i s = none)
    (hfresh : (Item.mk i fresh).isDefine = false)
    (hmerge : ∀ (it : Item) c, merge it.change = some c → (Item.mk i c).isDefine = it.isDefine) :
    TableWork s (stageChange p i merge fresh s).1 := by
  unfold stageChange
  split
  next q hq =>
    obtain ⟨hclaim, hne⟩ := otherClaimant_some hq
    exact refuseClaimed_work hclaim hne
  next hq =>
    split
    next it hit =>
      split
      next c hc => exact stageMerged_work hit (hmerge it c hc)
      next => exact .refl s
    next hit =>
      refine stageNew_work ((otherClaimant_none hq).imp_right fun h => ⟨h, hit⟩) ?_
      rw [hfresh]
      exact live_of_entryStateTest hstate hit

theorem mergeSet_isDefine {v : Word} {i : Index} (it : Item) (c : Change)
    (h : mergeSet v it.change = some c) : (Item.mk i c).isDefine = it.isDefine := by
  cases hit : it.change <;> simp only [hit, mergeSet, Option.some.injEq, reduceCtorEq] at h <;>
    subst h <;> simp [Item.isDefine, hit]

theorem mergeRebound_isDefine {lo hi : Word} {v : Option Word} {i : Index} (it : Item) (c : Change)
    (h : mergeRebound lo hi v it.change = some c) : (Item.mk i c).isDefine = it.isDefine := by
  cases hit : it.change <;> simp only [hit, mergeRebound, Option.some.injEq, reduceCtorEq] at h <;>
    subst h <;> simp [Item.isDefine, hit]

theorem opStageSet_work (p : Port) (i : Index) (v : Word) (s : State) :
    TableWork s (opStageSet p i v s).1 := by
  unfold opStageSet
  split
  · exact .refl s
  next h => exact stageChange_work (Option.or_eq_none_iff.1 h).1 rfl mergeSet_isDefine

theorem opStageRebound_work (p : Port) (i : Index) (lo hi : Word) (m : Byte) (v : Word) (s : State) :
    TableWork s (opStageRebound p i lo hi m v s).1 := by
  unfold opStageRebound
  split
  · exact .refl s
  next h =>
    split
    · exact .refl s
    · exact stageChange_work (Option.or_eq_none_iff.1 h).1 rfl mergeRebound_isDefine

theorem opStageRetire_work (p : Port) (i : Index) (s : State) :
    TableWork s (opStageRetire p i s).1 := by
  unfold opStageRetire
  split
  · exact .refl s
  next h =>
    split
    next q hq =>
      obtain ⟨hclaim, hne⟩ := otherClaimant_some hq
      exact refuseClaimed_work hclaim hne
    next hq =>
      split
      next it hit =>
        split
        next => exact withdrawDefine_work p i s
        next hdef => exact stageMerged_work hit (Bool.eq_false_iff.2 hdef).symm
      next hit =>
        exact stageNew_work ((otherClaimant_none hq).imp_right fun hc => ⟨hc, hit⟩)
          (live_of_entryStateTest (Option.or_eq_none_iff.1 h).1 hit)

theorem allocate_some {d : Definition} {s : State} {i : Index} (h : allocate d s = some i) :
    (s.entry i).isVacant = true ∧ (s.entry i).claim = none := by
  have hi := List.find?_some h
  simp only [Bool.and_eq_true, Option.isNone_iff_eq_none] at hi
  exact hi.1

theorem opStageDefine_work (p : Port) (ps : List Byte) (s : State) :
    TableWork s (opStageDefine p ps s).1 := by
  unfold opStageDefine
  split
  next => exact .refl s
  next i d _ =>
    unfold stageDefineAt
    split
    next => exact .refl s
    next => exact .refl s
    next hvacant =>
      split
      next q hq =>
        split
        next => exact .refl s
        next hne => exact refuseClaimed_work hq hne
      next hnone =>
        rw [withIndexDefined_state]
        exact stageNew_work (.inl hnone) (by simp [Item.isDefine, Entry.isVacant, hvacant])
  next d _ =>
    unfold stageDefineAny
    split
    · exact .refl s
    · split
      next i hi =>
        obtain ⟨hvacant, hnone⟩ := allocate_some hi
        rw [withIndexDefined_state]
        exact stageNew_work (.inl hnone) (by simpa [Item.isDefine] using hvacant)
      next => exact .refl s

/-! ### Subscriptions, anchors, release, session end -/

theorem opSubscribe_work (p : Port) (i : Index) (s : State) : TableWork s (opSubscribe p i s).1 := by
  simp only [opSubscribe]
  split
  · exact .resubscribe (resubscribed_set s.table i _)
  · exact .refl s
  · exact .refl s

theorem opUnsubscribe_work (p : Port) (i : Index) (s : State) :
    TableWork s (opUnsubscribe p i s).1 := by
  simp only [opUnsubscribe]
  split
  · exact .resubscribe (resubscribed_set s.table i _)
  · exact .refl s

/-- The subscriptions of a slice: entries alone, each resubscribed. -/
theorem subscribeLive_foldl (p : Port) (is : List Index) (s : State) :
    is.foldl (subscribeLive p) s = s.withEntries (is.foldl (subscribeLive p) s).table.entries ∧
      Resubscribed s.table (is.foldl (subscribeLive p) s).table.entries := by
  induction is generalizing s with
  | nil => exact ⟨rfl, fun i => ⟨id, (mapSubscribers_id _).symm⟩⟩
  | cons i is ih =>
    rw [List.foldl_cons]
    obtain ⟨hframe, hsub⟩ := ih (subscribeLive p s i)
    by_cases hlive : (s.entry i).isLive = true
    · have hstep : subscribeLive p s i =
          s.setEntry i ((s.entry i).mapSubscribers fun ps => PortSet.add ps p) := if_pos hlive
      rw [hstep] at hframe hsub ⊢
      exact ⟨hframe, (resubscribed_set s.table i _).trans hsub⟩
    · have hstep : subscribeLive p s i = s := if_neg hlive
      rw [hstep] at hframe hsub ⊢
      exact ⟨hframe, hsub⟩

theorem subscribeLive_foldl_work (p : Port) (is : List Index) (s : State) :
    TableWork s (is.foldl (subscribeLive p) s) := by
  obtain ⟨hframe, hsub⟩ := subscribeLive_foldl p is s
  rw [hframe]
  exact .resubscribe hsub

theorem opSubscribeSlice_work (p : Port) (sl : Slice) (s : State) :
    TableWork s (opSubscribeSlice p sl s).1 := by
  simp only [opSubscribeSlice]
  exact subscribeLive_foldl_work p (entriesOfSlice sl) s

theorem opUnsubscribeAll_work (p : Port) (s : State) : TableWork s (opUnsubscribeAll p s).1 :=
  .resubscribe fun i => ⟨_, mapEntries_get _ _ i⟩

theorem opNextChanged_work (p : Port) (s : State) : TableWork s (opNextChanged p s).1 := by
  unfold opNextChanged
  split
  · exact .refl s
  next i rest h => exact ⟨⟨rfl, rfl, rfl, rfl, rfl, rfl, rfl⟩, .setNotice (.next _ i rest h), .inl rfl⟩

theorem opAnchorSet_work (p : Port) (s : State) : TableWork s (opAnchorSet p s).1 :=
  .silent rfl ⟨rfl, rfl, rfl, rfl, rfl, rfl, rfl⟩ (.anchor p)

theorem opAnchorDrop_work (p : Port) (s : State) : TableWork s (opAnchorDrop p s).1 := by
  unfold opAnchorDrop
  split
  · exact .silent rfl ⟨rfl, rfl, rfl, rfl, rfl, rfl, rfl⟩ (.unanchor p)
  · exact .refl s

theorem opAnchorExpiry_work (p : Port) (s : State) : TableWork s (opAnchorExpiry p s) := by
  unfold opAnchorExpiry
  split
  · exact ⟨⟨rfl, rfl, rfl, rfl, rfl, rfl, rfl⟩, .deliver _ (stopAnchor p (s.setAnchor p none)), .inr (.unanchor p)⟩
  · exact .refl s

/-- The end of a save at its grant drops a held save anchor, with the vacate test (R185). -/
theorem opSaveEnd_state (s : State) :
    (s.table.saveAnchor = none ∧ opSaveEnd s = s) ∨
      opSaveEnd s = vacateTest (s.setSaveAnchor none) := by
  unfold opSaveEnd
  split
  next => exact .inr rfl
  next h => exact .inl ⟨h, rfl⟩

/-- `save_start` is refused without effect, or sets the save anchor (R178). -/
theorem opSaveStart_state (p : Port) (s : State) :
    ((opSaveStart p s).1 = s ∧ (opSaveStart p s).2.2 = .plain) ∨
      (s.save.record.state = .idle ∧ (opSaveStart p s).1 = s.setSaveAnchor (some s.table.g) ∧
        (opSaveStart p s).2.2 = .saveStart p s.table.g) := by
  simp only [opSaveStart]
  split
  next => exact .inl ⟨rfl, rfl⟩
  next h =>
    split
    · exact .inl ⟨rfl, rfl⟩
    · exact .inr ⟨not_not.1 h, rfl, rfl⟩

theorem sessionEndWork_table (p : Port) (s : State) : (sessionEndWork p s).table =
    forgotten p { emptied p s.table with anchors := s.table.anchors.set p none } := rfl

theorem sessionEndWork_notices (p : Port) (s : State) :
    (sessionEndWork p s).notices = ((endClaims (s.draft p) s).setNotice p clearNotice).notices := rfl

theorem opSessionEnd_work (p : Port) (re : Bool) (s : State) :
    TableWork s (opSessionEnd p re s).1 := by
  have hstate : (opSessionEnd p re s).1 = vacateTest (sessionEndWork p s) := by
    simp only [opSessionEnd]
  rw [hstate]
  refine ⟨(SameButTable.sessionEndWork p s).trans (.withTable _ _),
    (endClaims_moved (s.draft p) s).trans fun q => ?notices, .inr ?table⟩
  case notices =>
    rw [State.notice, State.notice, vacateTest, withEntries_notices, sessionEndWork_notices]
    exact NoticesMoved.setNotice (.clear _) q
  case table =>
    rw [vacateTest_table, sessionEndWork_table]
    exact .sessionEnd p

theorem acceptRelease_table (p : Port) (s : State) :
    (acceptRelease p (postState p (s.table.g + 1) (s.draft p) s.table.entries) s).table =
      released p s.table := by
  unfold acceptRelease released
  exact apply_ite State.table _ _ _

theorem acceptRelease_notices (p : Port) (post : Entries) (s : State) :
    (acceptRelease p post s).notices =
      (deliver (releaseDelivery p s.table.entries post (s.draft p))
        (s.withTable (releasedTable p (s.draft p) post s.table))).notices := by
  simp only [acceptRelease]
  split <;> rfl

theorem acceptRelease_frame (p : Port) (post : Entries) (s : State) :
    SameButTable s (acceptRelease p post s) := by
  simp only [acceptRelease]
  split <;> exact ⟨rfl, rfl, rfl, rfl, rfl, rfl, rfl⟩

theorem acceptRelease_work {p : Port} {s : State} (hg : s.table.g ≠ Config.lastGen)
    (hpass : firstFailure s.table.dependents
      (postState p (s.table.g + 1) (s.draft p) s.table.entries) (s.draft p) = none) :
    TableWork s
      (acceptRelease p (postState p (s.table.g + 1) (s.draft p) s.table.entries) s) := by
  refine ⟨acceptRelease_frame p _ s, fun q => ?notices, .inr ?table⟩
  case notices =>
    rw [State.notice, State.notice, acceptRelease_notices]
    exact NoticesMoved.deliver _ (s.withTable _) q
  case table =>
    rw [acceptRelease_table]
    exact .release p hg hpass

theorem opRelease_work (p : Port) (s : State) : TableWork s (opRelease p s).1 := by
  simp only [opRelease]
  split
  · exact .refl s
  · split
    · exact .refl s
    next hg =>
      split
      · exact .refl s
      next hpass =>
        exact acceptRelease_work hg hpass

end Sys2Proof.Proofs

/-! PROOF. What every effect is to the Notice Units, the table and the queue: the work of every table
command, of what is left for its completion and of a command answered at its take, and from these the
laws of the gate and the changed sets (R132, R138). -/

namespace Sys2Proof.Proofs
open Sys2Proof.Machine

/-! ### Commands answered at the take -/

/-- The commands of R161's second path but `save_abort`: the port's own Port Unit, lifetime settings and
Notice Unit. -/
theorem runPortCmd_state (p : Port) (c : PortCmd) (s : State) (hc : c ≠ .saveAbort) :
    ∃ u d a n, (runPortCmd p c s).1 = ((setLives s p d a).setPort p u).setNotice p n ∧
      Relation.ReflTransGen NoticeMove (s.notice p) n := by
  have hlives : setLives s p (s.timer.draftLife.get p) (s.timer.anchorLife.get p) = s := by
    simp only [setLives, PerPort.set_get_self]; rfl
  have hnotice : s.setNotice p (s.notice p) = s := by cases p <;> rfl
  cases c with
  | attachFresh =>
    exact ⟨_, Config.defaultDraftLife, Config.defaultAnchorLife, clearNotice,
      by simp [runPortCmd, freshSession, defaultSettings, setLives, State.setPort]; rfl,
      .single (.clear _)⟩
  | setLifetimes d a =>
    refine ⟨s.port p, d, a, s.notice p, ?_, .refl⟩
    have hport : (setLives s p d a).setPort p (s.port p) = setLives s p d a := by cases p <;> rfl
    have hunit : (setLives s p d a).setNotice p (s.notice p) = setLives s p d a := by cases p <;> rfl
    rw [hport, hunit]
    rfl
  | setWindows w0 w1 =>
    refine ⟨{ s.port p with win0 := w0, win1 := w1 }, s.timer.draftLife.get p,
      s.timer.anchorLife.get p, s.notice p, ?_, .refl⟩
    rw [hlives]
    show s.setPort p _ = (s.setNotice p (s.notice p)).setPort p _
    rw [hnotice]
  | notice c =>
    refine ⟨s.port p, s.timer.draftLife.get p, s.timer.anchorLife.get p,
      noticeStep c (s.notice p), ?_, .single (.command c _)⟩
    rw [hlives, setPort_port_self]
    rfl
  | saveStatus =>
    refine ⟨s.port p, s.timer.draftLife.get p, s.timer.anchorLife.get p, s.notice p, ?_, .refl⟩
    rw [hlives, setPort_port_self, hnotice]
    rfl
  | saveAbort => exact absurd rfl hc

/-- `save_abort` changes nothing, or decides ABORTED for the save that may be seen (R186). -/
theorem portSaveAbort_state (p : Port) (s : State) :
    (portSaveAbort p s).1 = s ∨
      ((portSaveAbort p s).1 = decideOutcome .aborted s ∧ (seenRecord s).state ≠ .idle ∧
        (seenRecord s).state ≠ .closing ∧ (seenRecord s).endPending = none) := by
  simp only [portSaveAbort]
  split
  · exact .inl rfl
  next hidle =>
    split
    · exact .inl rfl
    · split
      · exact .inl rfl
      next hbusy =>
        simp only [not_or, Option.isSome_iff_ne_none, ne_eq, not_not] at hbusy
        exact .inr ⟨rfl, hidle, hbusy.2, hbusy.1⟩

/-! ### Table commands -/

theorem opTableWipe_notices (s : State) : (opTableWipe s).1.notices = s.notices := by
  simp only [opTableWipe]
  split <;> rfl

theorem opTableWipe_table (s : State) : (opTableWipe s).1.table = resetTable := by
  simp only [opTableWipe]
  split <;> rfl

theorem loadImage_table (s : State) :
    (loadImage s).table = (storedImage s.store).foldl loadRecord s.table := rfl

/-- `table_reload` is refused without effect, or wipes and loads (R191). -/
theorem opTableReload_state (s : State) :
    (s.save.record.state ≠ .idle ∧ (opTableReload s).1 = s ∧ (opTableReload s).2.2 = .plain) ∨
      (s.save.record.state = .idle ∧
        (opTableReload s).1 = loadImage (wipeTable (s.withSave { s.save with device := .loading })) ∧
        (opTableReload s).2.2 = .reload) := by
  by_cases h : s.save.record.state = .idle
  · exact .inr ⟨h, by simp [opTableReload, h]⟩
  · exact .inl ⟨h, by simp [opTableReload, h]⟩

theorem runTableCmd_work {p : Port} {c : TableCmd} (s : State) (hs : c ≠ .saveStart)
    (hw : c ≠ .tableWipe) (hr : c ≠ .tableReload) : TableWork s (runTableCmd p c s).1 := by
  cases c with
  | sessionEnd re => exact opSessionEnd_work p re s
  | deviceStatus => exact .refl s
  | findTag t => exact .refl s
  | readEntry i => exact .refl s
  | readValue i => exact .refl s
  | readSlice sl => exact .refl s
  | anchorSet => exact opAnchorSet_work p s
  | anchorDrop => exact opAnchorDrop_work p s
  | readAnchored i => exact .refl s
  | stageSet i v => exact opStageSet_work p i v s
  | stageDefine ps => exact opStageDefine_work p ps s
  | stageRebound i lo hi m v => exact opStageRebound_work p i lo hi m v s
  | stageRetire i => exact opStageRetire_work p i s
  | draftView k => exact .refl s
  | draftRemove i => exact opDraftRemove_work p i s
  | draftDiscard => exact emptyDraft_work p s
  | release => exact opRelease_work p s
  | subscribe i => exact opSubscribe_work p i s
  | subscribeSlice sl => simp only [runTableCmd]; exact opSubscribeSlice_work p sl s
  | unsubscribe i => exact opUnsubscribe_work p i s
  | unsubscribeAll => exact opUnsubscribeAll_work p s
  | nextChanged => exact opNextChanged_work p s
  | saveStart => exact absurd rfl hs
  | tableWipe => exact absurd rfl hw
  | tableReload => exact absurd rfl hr

/-- The fields that no work of a table command touches, wipe and reload included. -/
structure SameFrame (s t : State) : Prop where
  nreset : t.nreset = s.nreset
  ports : t.ports = s.ports
  arbiter : t.arbiter = s.arbiter
  store : t.store = s.store
  freePick : t.freePick = s.freePick
  pending : t.pending = s.pending

theorem SameButTable.sameFrame {s t : State} (h : SameButTable s t) : SameFrame s t :=
  ⟨h.nreset, h.ports, h.arbiter, h.store, h.freePick, h.pending⟩

theorem opTableWipe_frame (s : State) : SameFrame s (opTableWipe s).1 := by
  simp only [opTableWipe]
  split <;> exact ⟨rfl, rfl, rfl, rfl, rfl, rfl⟩

/-- A table command is `save_start`, a wipe, a reload, or core work. -/
theorem tableCmd_cases (c : TableCmd) :
    c = .saveStart ∨ c = .tableWipe ∨ c = .tableReload ∨
      (c ≠ .saveStart ∧ c ≠ .tableWipe ∧ c ≠ .tableReload) := by
  tauto

theorem opSaveStart_frame (p : Port) (s : State) : SameButTable s (opSaveStart p s).1 := by
  rcases opSaveStart_state p s with ⟨h, -⟩ | ⟨-, h, -⟩ <;> rw [h]
  · exact .refl s
  · exact .withTable s _

theorem opSaveStart_notices (p : Port) (s : State) :
    (opSaveStart p s).1.notices = s.notices := by
  rcases opSaveStart_state p s with ⟨h, -⟩ | ⟨-, h, -⟩ <;> rw [h]
  exact setSaveAnchor_notices s _

theorem opSaveEnd_frame (s : State) : SameButTable s (opSaveEnd s) := by
  rcases opSaveEnd_state s with ⟨-, h⟩ | h <;> rw [h]
  · exact .refl s
  · exact (SameButTable.withTable s _).trans (.withTable _ _)

theorem opSaveEnd_notices (s : State) : (opSaveEnd s).notices = s.notices := by
  rcases opSaveEnd_state s with ⟨-, h⟩ | h <;> rw [h]
  rfl

theorem opSaveEnd_table (im : List RetainedRecord) (s : State) :
    (opSaveEnd s).table = s.table ∨ TableMove im s.table (opSaveEnd s).table := by
  rcases opSaveEnd_state s with ⟨-, h⟩ | h <;> rw [h]
  · exact .inl rfl
  · exact .inr .unsaveAnchor

theorem opTableReload_frame (s : State) : SameFrame s (opTableReload s).1 := by
  rcases opTableReload_state s with ⟨-, h, -⟩ | ⟨-, h, -⟩ <;> rw [h] <;>
    exact ⟨rfl, rfl, rfl, rfl, rfl, rfl⟩

theorem runTableCmd_frame (p : Port) (c : TableCmd) (s : State) :
    SameFrame s (runTableCmd p c s).1 := by
  rcases tableCmd_cases c with rfl | rfl | rfl | ⟨hs, hw, hr⟩
  · exact (opSaveStart_frame p s).sameFrame
  · exact opTableWipe_frame s
  · exact opTableReload_frame s
  · exact (runTableCmd_work s hs hw hr).frame.sameFrame

theorem TableWork.move {s t : State} (h : TableWork s t) (im : List RetainedRecord) :
    t.table = s.table ∨ TableMove im s.table t.table :=
  h.table.imp_right (.core _)

/-- The work of every table command: one move of the table at most. -/
theorem runTableCmd_table (p : Port) (c : TableCmd) (s : State) :
    (runTableCmd p c s).1.table = s.table ∨
      TableMove (storedImage s.store) s.table (runTableCmd p c s).1.table := by
  rcases tableCmd_cases c with rfl | rfl | rfl | ⟨hs, hw, hr⟩
  · rcases opSaveStart_state p s with ⟨h, -⟩ | ⟨-, h, -⟩
    · exact .inl (congrArg State.table h)
    · refine .inr ?_
      simp only [runTableCmd, h]
      exact .saveAnchor
  · refine .inr ?_
    simp only [runTableCmd, opTableWipe_table]
    exact .wipe
  · rcases opTableReload_state s with ⟨-, h, -⟩ | ⟨-, h, -⟩
    · exact .inl (congrArg State.table h)
    · refine .inr ?_
      simp only [runTableCmd, h, loadImage_table]
      exact .load
  · exact (runTableCmd_work s hs hw hr).move _

theorem runTableCmd_notices (p : Port) (c : TableCmd) (s : State) :
    NoticesMoved s (runTableCmd p c s).1 := by
  rcases tableCmd_cases c with rfl | rfl | rfl | ⟨hs, hw, hr⟩
  · exact .of_eq (opSaveStart_notices p s)
  · exact .of_eq (opTableWipe_notices s)
  · rcases opTableReload_state s with ⟨-, h, -⟩ | ⟨-, h, -⟩
    · exact .of_eq (congrArg State.notices h)
    · exact .of_eq ((congrArg State.notices h).trans rfl)
  · exact (runTableCmd_work s hs hw hr).notices

/-! ### What is left for a completion -/

theorem advanceSave_state (s : State) : ∃ e, advanceSave s = s.withSave e := by
  simp only [advanceSave]
  split <;> exact ⟨_, rfl⟩

theorem finishCopy_state (v : Visit) (s : State) : ∃ e, finishCopy v s = s.withSave e := by
  unfold finishCopy
  split
  · exact ⟨s.save, rfl⟩
  · cases v with
    | noRecord => exact advanceSave_state s
    | torn => exact ⟨_, rfl⟩
    | record r => exact ⟨_, rfl⟩

/-- A completion leaves the table, the arbiter and the queue, and moves the Notice Units. -/
structure FinishFrame (s t : State) : Prop where
  nreset : t.nreset = s.nreset
  table : t.table = s.table
  arbiter : t.arbiter = s.arbiter
  freePick : t.freePick = s.freePick
  pending : t.pending = s.pending
  notices : NoticesMoved s t

theorem FinishFrame.withSave (s : State) (e : SaveEngine) : FinishFrame s (s.withSave e) :=
  ⟨rfl, rfl, rfl, rfl, rfl, .of_eq rfl⟩

theorem FinishFrame.deliver (f : Port → Delivery) (s : State) : FinishFrame s (deliver f s) :=
  ⟨rfl, rfl, rfl, rfl, rfl, .deliver f s⟩

theorem FinishFrame.trans {s t u : State} (h : FinishFrame s t) (h' : FinishFrame t u) :
    FinishFrame s u :=
  ⟨h'.nreset.trans h.nreset, h'.table.trans h.table, h'.arbiter.trans h.arbiter,
    h'.freePick.trans h.freePick, h'.pending.trans h.pending, h.notices.trans h'.notices⟩

theorem defaultSettings_frame (p : Port) (s : State) : FinishFrame s (defaultSettings p s) :=
  ⟨rfl, rfl, rfl, rfl, rfl, .of_eq rfl⟩

theorem freshSession_frame (p : Port) (s : State) : FinishFrame s (freshSession p s) := by
  refine (defaultSettings_frame p s).trans ⟨rfl, rfl, rfl, rfl, rfl, ?_⟩
  exact NoticesMoved.setNotice (s := (defaultSettings p s).setPort p _) (.clear _)

theorem finishWipe_frame (ends : Bool) (s : State) : FinishFrame s (finishWipe ends s) := by
  cases ends with
  | false => exact .deliver _ s
  | true => exact (FinishFrame.withSave s _).trans (.deliver _ _)

theorem runFinish_frame (f : Finish) (s : State) : FinishFrame s (runFinish f s) := by
  cases f with
  | plain => exact .withSave s s.save
  | session p re =>
    cases re with
    | true => exact freshSession_frame p s
    | false => exact (defaultSettings_frame p s).trans ⟨rfl, rfl, rfl, rfl, rfl, .of_eq rfl⟩
  | wipe ends => exact finishWipe_frame ends s
  | reload => exact (FinishFrame.withSave s _).trans (.deliver _ _)
  | saveStart p gs => exact ⟨rfl, rfl, rfl, rfl, rfl, .of_eq rfl⟩
  | copy v =>
    obtain ⟨e, he⟩ := finishCopy_state v s
    simp only [runFinish, he]
    exact .withSave s e
  | saveEnd => exact (FinishFrame.withSave s _).trans (.deliver _ _)

/-! ### Grants and completions as whole states -/

/-- The state on which a grant performs the command in flight: the port's request dropped (R22). -/
def requestDropped (p : Port) (s : State) : State := s.setPort p { s.port p with request := false }

theorem grantPort_some {p : Port} {s : State} {f : InFlight} (h : (s.port p).unit = some f) :
    grantPort p s = beginOperation (.pu p)
      (some (withHandle f.resolved (runTableCmd p f.cmd (requestDropped p s)).2.1))
      (runTableCmd p f.cmd (requestDropped p s)).2.2
      (runTableCmd p f.cmd (requestDropped p s)).1 := by
  unfold grantPort requestDropped
  split
  next g hg => cases h.symm.trans hg; rfl
  next hg => cases h.symm.trans hg

theorem grantPort_none {p : Port} {s : State} (h : (s.port p).unit = none) :
    grantPort p s = beginOperation (.pu p) none .plain (requestDropped p s) := by
  unfold grantPort requestDropped
  split
  next g hg => cases h.symm.trans hg
  next => rfl

theorem handBack_ports (op : TableOperation) (s : State) : ∃ f, handBack op s = s.withPorts f := by
  unfold handBack
  split
  · split
    · exact ⟨_, rfl⟩
    · exact ⟨s.ports, rfl⟩
  · exact ⟨s.ports, rfl⟩

/-- With an operation in progress, a completion is what is left of it, the end of the operation, and a
result in a Port Unit. -/
theorem completeOperation_some {s : State} {op : TableOperation} (h : s.arbiter.op = some op) :
    ∃ f, completeOperation s =
      ((runFinish op.finish s).withArbiter { s.arbiter with op := none }).withPorts f := by
  obtain ⟨f, hf⟩ := handBack_ports op
    ((runFinish op.finish s).withArbiter { s.arbiter with op := none })
  refine ⟨f, ?_⟩
  simp only [completeOperation, h]
  rw [runFinish_withArbiter, hf]

theorem completeOperation_none {s : State} (h : s.arbiter.op = none) : completeOperation s = s := by
  simp only [completeOperation, h]

/-! ### The expiries and the Save Engine's grants -/

theorem runExpiry_work (e : Expiry) (s : State) : TableWork s (runExpiry e s) := by
  cases e with
  | draft p => exact opDraftExpiry_work p s
  | anchor p => exact opAnchorExpiry_work p s

/-- The state in which an expiry is served: it has left the set (R22). -/
def expiryDropped (e : Expiry) (n : Nat) (s : State) : State :=
  (s.withPick n).withTimer { s.timer with expiries := dropExpiry e s.timer.expiries }

theorem grantSave_copy (s : State) :
    grantSave .copy s = beginOperation .save none (.copy (visitNext s))
      (s.withSave { s.save with request := none }) := rfl

theorem grantSave_finish (s : State) :
    grantSave .finish s = beginOperation .save none .saveEnd
      (opSaveEnd (s.withSave { s.save with request := none })) := rfl

/-! ### Work on the Retained Store -/

/-- Nothing changes but the Save Engine and the Retained Store. -/
def SaveStoreOnly (s t : State) : Prop := t = (s.withSave t.save).withStore t.store

theorem SaveStoreOnly.refl (s : State) : SaveStoreOnly s s := rfl

theorem SaveStoreOnly.table {s t : State} (h : SaveStoreOnly s t) : t.table = s.table := by
  rw [h]; rfl

theorem eraseComplete_only (v : Bool) (s : State) : SaveStoreOnly s (eraseComplete v s) := by
  simp only [eraseComplete]
  split
  · split
    · split <;> exact rfl
    · exact rfl
  · exact .refl s

theorem programComplete_only (v : Bool) (s : State) : SaveStoreOnly s (programComplete v s) := by
  simp only [programComplete]
  split
  · split
    · split
      all_goals
        obtain ⟨e, he⟩ := advanceSave_state (State.withRecord _ _)
        rw [he]
        exact rfl
    · exact rfl
  · exact .refl s

theorem headerComplete_only (v : Bool) (s : State) : SaveStoreOnly s (headerComplete v s) := by
  simp only [headerComplete]
  split
  · split
    · split <;> exact rfl
    · exact .refl s
  · exact .refl s

theorem reeraseComplete_only (v : Bool) (s : State) : SaveStoreOnly s (reeraseComplete v s) := by
  simp only [reeraseComplete]
  split
  · split
    · split <;> exact rfl
    · exact rfl
  · exact .refl s

/-! ### Chip reset -/

theorem resetFalls_of_high {s : State} (h : s.nreset = true) : resetFalls s = holdInReset s := if_pos h

theorem resetFalls_of_low {s : State} (h : s.nreset = false) : resetFalls s = s :=
  if_neg (ne_true_of_eq_false h)

theorem resetFalls_store (s : State) : (resetFalls s).store = s.store := by
  unfold resetFalls
  split <;> rfl

theorem resetFalls_pending (s : State) : (resetFalls s).pending = s.pending := by
  unfold resetFalls
  split <;> rfl

/-! ### Every effect -/

theorem effect_pending {s t : State} (h : Effect s t) : t.pending = s.pending := by
  cases h with
  | ports f => rfl
  | take p c f g =>
    by_cases hc : c = .saveAbort
    · subst hc
      rcases portSaveAbort_state p (s.withPorts f) with h | ⟨h, -⟩ <;>
        simp only [runPortCmd, h] <;> rfl
    · obtain ⟨u, d, a, n, h, -⟩ := runPortCmd_state p c (s.withPorts f) hc
      rw [h]
      rfl
  | timer tm => rfl
  | grantPort p _ =>
    cases hu : (s.port p).unit with
    | none => rw [grantPort_none hu]; rfl
    | some f =>
      rw [grantPort_some hu]
      exact (runTableCmd_frame p f.cmd (requestDropped p s)).pending
  | grantExpiry e n _ => exact (runExpiry_work e (expiryDropped e n s)).frame.pending
  | grantSave r _ _ =>
    cases r with
    | copy => rfl
    | finish => exact (opSaveEnd_frame (s.withSave { s.save with request := none })).pending
  | complete =>
    cases ho : s.arbiter.op with
    | none => rw [completeOperation_none ho]
    | some op =>
      obtain ⟨f, hf⟩ := completeOperation_some ho
      rw [hf]
      exact (runFinish_frame op.finish s).pending
  | erase v => rw [eraseComplete_only v s]; rfl
  | program v => rw [programComplete_only v s]; rfl
  | header v => rw [headerComplete_only v s]; rfl
  | reerase v => rw [reeraseComplete_only v s]; rfl
  | resetFalls => exact resetFalls_pending s
  | resetRises => exact resetFalls_pending s
  | startupLoad _ => rfl

theorem clear_moves (n : NoticeUnit) : Relation.ReflTransGen NoticeMove n clearNotice :=
  .single (.clear n)

/-- Whatever a row does, every Notice Unit makes moves of its own alone. -/
theorem effect_notices {s t : State} (h : Effect s t) : NoticesMoved s t := by
  cases h with
  | ports f => exact .of_eq rfl
  | take p c f g =>
    by_cases hc : c = .saveAbort
    · subst hc
      rcases portSaveAbort_state p (s.withPorts f) with h | ⟨h, -⟩ <;>
        exact .of_eq (by simp only [runPortCmd, h]; rfl)
    · obtain ⟨u, d, a, n, h, hn⟩ := runPortCmd_state p c (s.withPorts f) hc
      intro q
      rw [h]
      show Relation.ReflTransGen NoticeMove _ ((s.setNotice p n).notice q)
      rw [setNotice_notice_if]
      split
      next hq => subst hq; exact hn
      next => exact .refl
  | timer tm => exact .of_eq rfl
  | grantPort p _ =>
    cases hu : (s.port p).unit with
    | none => rw [grantPort_none hu]; exact .of_eq rfl
    | some f =>
      rw [grantPort_some hu]
      exact runTableCmd_notices p f.cmd (requestDropped p s)
  | grantExpiry e n _ => exact (runExpiry_work e (expiryDropped e n s)).notices
  | grantSave r _ _ =>
    cases r with
    | copy => exact .of_eq rfl
    | finish => exact .of_eq (opSaveEnd_notices (s.withSave { s.save with request := none }))
  | complete =>
    cases ho : s.arbiter.op with
    | none => rw [completeOperation_none ho]; exact .of_eq rfl
    | some op =>
      obtain ⟨f, hf⟩ := completeOperation_some ho
      rw [hf]
      exact (runFinish_frame op.finish s).notices
  | erase v => rw [eraseComplete_only v s]; exact .of_eq rfl
  | program v => rw [programComplete_only v s]; exact .of_eq rfl
  | header v => rw [headerComplete_only v s]; exact .of_eq rfl
  | reerase v => rw [reeraseComplete_only v s]; exact .of_eq rfl
  | resetFalls =>
    cases hr : s.nreset with
    | false => rw [resetFalls_of_low hr]; exact .of_eq rfl
    | true =>
      rw [resetFalls_of_high hr]
      intro q
      have hq : (holdInReset s).notice q = clearNotice := by cases q <;> rfl
      rw [hq]
      exact clear_moves _
  | resetRises =>
    intro q
    have hq : (resetRises s).notice q = clearNotice := by cases q <;> rfl
    rw [hq]
    exact clear_moves _
  | startupLoad _ => exact .of_eq rfl

/-- Whatever a row does, the table makes one move at most; the start-up load fills it as it stands. -/
theorem effect_table {s t : State} (h : Effect s t) :
    t.table = s.table ∨ TableMove (storedImage s.store) s.table t.table ∨
      (s.save.startup = true ∧ t.table = (storedImage s.store).foldl loadRecord s.table) := by
  cases h with
  | ports f => exact .inl rfl
  | take p c f g =>
    refine .inl ?_
    by_cases hc : c = .saveAbort
    · subst hc
      rcases portSaveAbort_state p (s.withPorts f) with h | ⟨h, -⟩ <;>
        simp only [runPortCmd, h] <;> rfl
    · obtain ⟨u, d, a, n, h, -⟩ := runPortCmd_state p c (s.withPorts f) hc
      rw [h]
      rfl
  | timer tm => exact .inl rfl
  | grantPort p _ =>
    cases hu : (s.port p).unit with
    | none => rw [grantPort_none hu]; exact .inl rfl
    | some f =>
      rw [grantPort_some hu]
      exact (runTableCmd_table p f.cmd (requestDropped p s)).imp_right .inl
  | grantExpiry e n _ =>
    exact ((runExpiry_work e (expiryDropped e n s)).move _).imp_right .inl
  | grantSave r _ _ =>
    cases r with
    | copy => exact .inl rfl
    | finish =>
      exact (opSaveEnd_table _ (s.withSave { s.save with request := none })).imp_right .inl
  | complete =>
    refine .inl ?_
    cases ho : s.arbiter.op with
    | none => rw [completeOperation_none ho]
    | some op =>
      obtain ⟨f, hf⟩ := completeOperation_some ho
      rw [hf]
      exact (runFinish_frame op.finish s).table
  | erase v => rw [eraseComplete_only v s]; exact .inl rfl
  | program v => rw [programComplete_only v s]; exact .inl rfl
  | header v => rw [headerComplete_only v s]; exact .inl rfl
  | reerase v => rw [reeraseComplete_only v s]; exact .inl rfl
  | resetFalls =>
    cases hr : s.nreset with
    | false => rw [resetFalls_of_low hr]; exact .inl rfl
    | true => rw [resetFalls_of_high hr]; exact .inr (.inl .wipe)
  | resetRises => exact .inr (.inl .wipe)
  | startupLoad hs => exact .inr (.inr ⟨hs, rfl⟩)

/-! ### The laws of the Notice Units -/

/-- R138 for one Notice Unit. -/
def UnitGateLaw (n : NoticeUnit) : Prop :=
  (n.gate = .armed → enabledPending n = false) ∧ (n.gate = .raised → enabledPending n = true)

theorem unitGateLaw_raiseTest {n : NoticeUnit} (h : n.gate = .raised → enabledPending n = true) :
    UnitGateLaw (raiseTest n) := by
  unfold raiseTest
  split
  next hr => exact ⟨nofun, fun _ => hr.2⟩
  next hr => exact ⟨fun ha => by simpa [ha] using hr, h⟩

theorem unitGateLaw_testedGate (n : NoticeUnit) : UnitGateLaw { n with gate := testedGate n } := by
  cases h : enabledPending n with
  | true =>
    have hgate : testedGate n = .raised := if_pos h
    rw [hgate]
    exact ⟨nofun, fun _ => h⟩
  | false =>
    have hgate : testedGate n = .armed := if_neg (ne_true_of_eq_false h)
    rw [hgate]
    exact ⟨fun _ => h, nofun⟩

/-- A gate that is neither ARMED nor RAISED satisfies the law whatever is pending. -/
theorem unitGateLaw_of_gate {n : NoticeUnit} (ha : n.gate ≠ .armed) (hr : n.gate ≠ .raised) :
    UnitGateLaw n :=
  ⟨fun h => absurd h ha, fun h => absurd h hr⟩

theorem enabledPending_more {n : NoticeUnit} (f : NoticeFlags) (js : IndexSet)
    (h : enabledPending n = true) :
    enabledPending { n with changed := js, flags := n.flags ||| f } = true := by
  simp only [enabledPending, bne_iff_ne, ne_eq] at h ⊢
  intro hzero
  refine h (BitVec.eq_of_getLsbD_eq fun i hi => ?_)
  have hbit := congrArg (fun b => b.getLsbD i) hzero
  simp only [BitVec.getLsbD_and, BitVec.getLsbD_or] at hbit ⊢
  revert hbit
  cases n.flags.getLsbD i <;> simp

theorem enabledPending_fewer {n : NoticeUnit} (m : NoticeFlags)
    (h : enabledPending n = false) : enabledPending (clearFlags m n) = false := by
  simp only [enabledPending, clearFlags, bne_eq_false_iff_eq] at h ⊢
  refine BitVec.eq_of_getLsbD_eq fun i hi => ?_
  have hbit := congrArg (fun b => b.getLsbD i) h
  simp only [BitVec.getLsbD_and] at hbit ⊢
  revert hbit
  cases n.flags.getLsbD i <;> cases n.enables.getLsbD i <;> simp

/-- The enables replaced, the gate tested where it is ARMED or RAISED (R137). -/
theorem noticeSetEnables_eq (m : NoticeFlags) (n : NoticeUnit) :
    noticeSetEnables m n = { n with
      enables := m
      gate := if n.gate = .armed ∨ n.gate = .raised then testedGate { n with enables := m }
        else n.gate } := by
  unfold noticeSetEnables
  split
  next hg =>
    rw [if_pos (.inl hg)]
    have harmed : ({ n with enables := m } : NoticeUnit) =
        { n with enables := m, gate := .armed } := by rw [← hg]
    show raiseTest { n with enables := m } = _
    rw [harmed]
    exact raiseTest_armed { n with enables := m }
  next hg =>
    rw [if_pos (.inr hg)]
    exact lowerTest_of_raised (n := { n with enables := m }) hg
  all_goals next hg => rw [if_neg (by simp [hg])]

theorem unitGateLaw_command {n : NoticeUnit} (c : NoticeCmd) (h : UnitGateLaw n) :
    UnitGateLaw (noticeStep c n) := by
  cases c with
  | setEnables m =>
    simp only [noticeStep, noticeSetEnables_eq]
    split
    next => exact unitGateLaw_testedGate { n with enables := m }
    next hg => exact unitGateLaw_of_gate (fun e => hg (.inl e)) (fun e => hg (.inr e))
  | gateOn =>
    simp only [noticeStep, noticeGateOn_eq]
    split
    · exact unitGateLaw_testedGate n
    · exact h
  | gateOff => exact unitGateLaw_of_gate nofun nofun
  | take =>
    simp only [noticeStep, noticeTake_eq]
    split
    · exact unitGateLaw_of_gate nofun nofun
    · exact h
  | rearm =>
    simp only [noticeStep, noticeRearm_eq]
    split
    · exact unitGateLaw_testedGate n
    · exact h
  | done m =>
    simp only [noticeStep, noticeDone_eq]
    split
    next => exact unitGateLaw_testedGate (clearFlags m n)
    next hg => exact ⟨fun ha => enabledPending_fewer m (h.1 ha), fun hr => absurd (.inr hr) hg⟩
  | clear m =>
    simp only [noticeStep, noticeClear_eq]
    split
    next => exact unitGateLaw_testedGate (clearFlags m n)
    next hg => exact ⟨fun ha => enabledPending_fewer m (h.1 ha), fun hr => absurd hr hg⟩

theorem unitGateLaw_move {n m : NoticeUnit} (hm : NoticeMove n m) (h : UnitGateLaw n) :
    UnitGateLaw m := by
  cases hm with
  | delivery d =>
    unfold applyDelivery
    split
    · exact h
    · exact unitGateLaw_raiseTest fun hr => enabledPending_more d.flags _ (h.2 hr)
  | command c => exact unitGateLaw_command c h
  | clear => exact unitGateLaw_of_gate nofun nofun
  | next _ i rest _ => exact h

theorem foldl_addIndex_ascending (is : List Index) (js : IndexSet) (h : js.Pairwise (· < ·)) :
    (is.foldl (fun js i => addIndex i js) js).Pairwise (· < ·) := by
  induction is generalizing js with
  | nil => exact h
  | cons i is ih => exact ih _ (addIndex_ascending i js h)

theorem applyDelivery_ascending (d : Delivery) {n : NoticeUnit} (h : n.changed.Pairwise (· < ·)) :
    (applyDelivery d n).changed.Pairwise (· < ·) := by
  unfold applyDelivery
  split
  · exact h
  · rw [raiseTest_changed]
    apply foldl_addIndex_ascending
    split
    · exact .nil
    · exact h

/-- No notice command touches the changed set. -/
theorem noticeStep_changed (c : NoticeCmd) (n : NoticeUnit) :
    (noticeStep c n).changed = n.changed := by
  cases c with
  | setEnables m => simp only [noticeStep, noticeSetEnables_eq]
  | gateOn => simp only [noticeStep, noticeGateOn_eq]
  | gateOff => rfl
  | take => simp only [noticeStep, noticeTake_eq]
  | rearm => simp only [noticeStep, noticeRearm_eq]
  | done m => simp only [noticeStep, noticeDone_eq, clearFlags]
  | clear m => simp only [noticeStep, noticeClear_eq, clearFlags]

theorem changed_move {n m : NoticeUnit} (hm : NoticeMove n m) (h : n.changed.Pairwise (· < ·)) :
    m.changed.Pairwise (· < ·) := by
  cases hm with
  | delivery d => exact applyDelivery_ascending d h
  | command c => rw [noticeStep_changed]; exact h
  | clear => exact .nil
  | next _ i rest hn => exact (List.pairwise_cons.1 (hn ▸ h)).2

/-- A law of single Notice Units that every move keeps is kept by every step. -/
theorem noticeLaw_step {P : NoticeUnit → Prop} (hP : ∀ n m, NoticeMove n m → P n → P m)
    {s t : State} (hs : ∀ p, P (s.notice p)) (h : step s = .next t) (p : Port) : P (t.notice p) := by
  obtain ⟨q, he⟩ := effect_of_step h
  have hmoves := effect_notices he p
  rw [withPending_notice] at hmoves
  clear he
  generalize t.notice p = m at hmoves ⊢
  induction hmoves with
  | refl => exact hs p
  | tail _ hm ih => exact hP _ _ hm ih

/-- Settles O53: both laws are laws of single Notice Units, kept by every move. -/
theorem noticeLawsKept : Obligations.NoticeLawsKept :=
  ⟨fun _ _ hs h p => noticeLaw_step (P := UnitGateLaw) (fun _ _ => unitGateLaw_move) hs h p,
    fun _ _ hs h p => noticeLaw_step (fun _ _ => changed_move) hs h p⟩

/-- Settles O2. -/
theorem everyRowAnswersNext : Obligations.EveryRowAnswersNext := by
  intro c s
  obtain ⟨t, ht, he⟩ := exec_effect c s
  exact ⟨t, ht, effect_pending he⟩

end Sys2Proof.Proofs

/-! PROOF. Claims, waiters and drafts (R60, R74, R90, R111): they agree after every move of the table. -/

namespace Sys2Proof.Proofs
open Sys2Proof.Machine

/-! ### The vacate test on one entry (R116) -/

/-- The vacate test clears a RETIRED entry that no anchor holds and leaves every other as it is. -/
theorem vacateEntry_cases (as : List Gen) (e : Entry) :
    (∃ r g, e.content = .retired r g ∧ isHeld as g = false ∧ vacateEntry as e = vacantEntry) ∨
      ((∀ r g, e.content = .retired r g → isHeld as g = true) ∧ vacateEntry as e = e) := by
  cases hc : e.content with
  | vacant => exact .inr ⟨(fun _ _ h => nomatch h), by simp only [vacateEntry, hc]⟩
  | live r => exact .inr ⟨(fun _ _ h => nomatch h), by simp only [vacateEntry, hc]⟩
  | retired r g =>
    cases hh : isHeld as g with
    | false => exact .inl ⟨r, g, rfl, hh, by simp [vacateEntry, hc, hh]⟩
    | true => exact .inr ⟨fun r' g' h => by cases h; exact hh, by simp [vacateEntry, hc, hh]⟩

theorem vacated_get (t : TableController) (i : Index) :
    (vacated t).entries.get i = vacateEntry (heldAnchors t) (t.entries.get i) :=
  mapEntries_get _ _ i

/-! ### The post-state entry by entry (R91) -/

/-- One entry under an item of the draft. -/
def postEntry (p : Port) (g : Gen) (e : Entry) (c : Change) : Entry :=
  { e with content := postContent p g e.content c }

theorem postState_cons (p : Port) (g : Gen) (it : Item) (its : List Item) (t : Entries) :
    postState p g (it :: its) t =
      postState p g its (t.set it.index.val (postEntry p g (t.get it.index) it.change)
        it.index.isLt) := rfl

theorem postState_get_of_not_mem {p : Port} {g : Gen} {items : List Item} {i : Index}
    (h : ∀ it ∈ items, it.index ≠ i) (t : Entries) : (postState p g items t).get i = t.get i := by
  induction items generalizing t with
  | nil => rfl
  | cons it its ih =>
    rw [postState_cons, ih fun x hx => h x (.tail _ hx), get_set_entries,
      if_neg (Ne.symm (h it (.head _)))]

theorem postState_get_of_mem {p : Port} {g : Gen} {items : List Item} {it : Item}
    (hnodup : (items.map Item.index).Nodup) (hit : it ∈ items) (t : Entries) :
    (postState p g items t).get it.index = postEntry p g (t.get it.index) it.change := by
  induction items generalizing t with
  | nil => cases hit
  | cons x xs ih =>
    rw [List.map_cons, List.nodup_cons] at hnodup
    obtain ⟨hx, hxs⟩ := hnodup
    have hne : ∀ y ∈ xs, y.index ≠ x.index := fun y hy e =>
      hx (e ▸ List.mem_map_of_mem hy)
    rw [postState_cons]
    rcases List.mem_cons.1 hit with rfl | hmem
    · rw [postState_get_of_not_mem hne, get_set_entries, if_pos rfl]
    · rw [ih hxs hmem, get_set_entries, if_neg (hne it hmem)]

/-- The post-state touches no claim and no waiter. -/
theorem postState_claim (p : Port) (g : Gen) (items : List Item) (t : Entries) (i : Index) :
    ((postState p g items t).get i).claim = (t.get i).claim ∧
      ((postState p g items t).get i).waiters = (t.get i).waiters := by
  induction items generalizing t with
  | nil => exact ⟨rfl, rfl⟩
  | cons x xs ih =>
    rw [postState_cons]
    obtain ⟨hc, hw⟩ := ih (t.set x.index.val (postEntry p g (t.get x.index) x.change) x.index.isLt)
    rw [hc, hw, get_set_entries]
    split
    next h => subst h; exact ⟨rfl, rfl⟩
    next => exact ⟨rfl, rfl⟩

/-! ### The law of claims on entries and drafts -/

/-- R60, R74, R90, R111 on the entries and the drafts alone. -/
structure ClaimsAgree (e : Entries) (d : PerPort (List Item)) : Prop where
  claimed : ∀ p i, (e.get i).claim = some p ↔ ∃ it ∈ d.get p, it.index = i
  size : ∀ p, (d.get p).length ≤ 16
  nodup : ∀ p, ((d.get p).map Item.index).Nodup
  noWaiters : ∀ i, (e.get i).claim = none → (e.get i).waiters = noPorts
  notWaiting : ∀ i p, (e.get i).claim = some p → PortSet.has (e.get i).waiters p = false
  kind : ∀ p, ∀ it ∈ d.get p,
    if it.isDefine then (e.get it.index).isVacant = true else (e.get it.index).isLive = true

theorem claimLaw_iff (s : State) : claimLaw s ↔ ClaimsAgree s.table.entries s.table.drafts := by
  constructor
  · rintro ⟨hclaimed, hdraft, hnone, hsome, hkind⟩
    exact ⟨hclaimed, fun p => (hdraft p).1, fun p => (hdraft p).2, hnone, hsome, hkind⟩
  · intro h
    exact ⟨h.claimed, fun p => ⟨h.size p, h.nodup p⟩, h.noWaiters, h.notWaiting, h.kind⟩

/-- An entry that a change leaves VACANT if it was, and LIVE if it was. -/
def StateKept (e e' : Entry) : Prop :=
  (e.isVacant = true → e'.isVacant = true) ∧ (e.isLive = true → e'.isLive = true)

theorem StateKept.of_content {e e' : Entry} (h : e'.content = e.content) : StateKept e e' := by
  have hlive : e'.isLive = e.isLive := by simp only [Entry.isLive, Entry.live?, h]
  have hvacant : e'.isVacant = e.isVacant := by simp only [Entry.isVacant, h]
  exact ⟨fun hv => hvacant.trans hv, fun hl => hlive.trans hl⟩

theorem StateKept.item {e e' : Entry} (h : StateKept e e') {it : Item}
    (hit : if it.isDefine then e.isVacant = true else e.isLive = true) :
    if it.isDefine then e'.isVacant = true else e'.isLive = true := by
  split at hit
  next hd => rw [if_pos hd]; exact h.1 hit
  next hd => rw [if_neg hd]; exact h.2 hit

theorem noPorts_has (p : Port) : PortSet.has noPorts p = false := by cases p <;> rfl

theorem PortSet.has_drop (ps : PortSet) (p q : Port) :
    PortSet.has (PortSet.drop ps p) q = if q = p then false else PortSet.has ps q :=
  PerPort.get_set ps p q false

theorem PortSet.has_add (ps : PortSet) (p q : Port) :
    PortSet.has (PortSet.add ps p) q = if q = p then true else PortSet.has ps q :=
  PerPort.get_set ps p q true

theorem noPorts_drop (p : Port) : PortSet.drop noPorts p = noPorts := by cases p <;> rfl

namespace ClaimsAgree

variable {e e' : Entries} {d : PerPort (List Item)}

/-- Claims kept and waits only dropped, with the entries' states kept: the law stays. -/
theorem congr (h : ClaimsAgree e d) (hclaim : ∀ i, (e'.get i).claim = (e.get i).claim)
    (hwaiters : ∀ i, (e'.get i).waiters = (e.get i).waiters)
    (hstate : ∀ i, StateKept (e.get i) (e'.get i)) : ClaimsAgree e' d where
  claimed p i := by rw [hclaim]; exact h.claimed p i
  size := h.size
  nodup := h.nodup
  noWaiters i hi := by rw [hwaiters]; exact h.noWaiters i (hclaim i ▸ hi)
  notWaiting i p hi := by rw [hwaiters]; exact h.notWaiting i p (hclaim i ▸ hi)
  kind p it hit := (hstate it.index).item (h.kind p it hit)

/-- A RETIRED entry has neither claim nor waiters (R111). -/
theorem retired_free (h : ClaimsAgree e d) {i : Index} {r : Rec} {g : Gen}
    (hi : (e.get i).content = .retired r g) :
    (e.get i).claim = none ∧ (e.get i).waiters = noPorts := by
  have hclaim : (e.get i).claim = none := by
    cases hc : (e.get i).claim with
    | none => rfl
    | some p =>
      obtain ⟨it, hit, rfl⟩ := (h.claimed p i).1 hc
      have hkind := h.kind p it hit
      split at hkind
      · simp [Entry.isVacant, hi] at hkind
      · simp [Entry.isLive, Entry.live?, hi] at hkind
  exact ⟨hclaim, h.noWaiters i hclaim⟩

theorem vacate (as : List Gen) (h : ClaimsAgree e d) :
    ClaimsAgree (mapEntries (vacateEntry as) e) d := by
  have hentry (i : Index) : vacateEntry as (e.get i) = e.get i ∨
      (vacateEntry as (e.get i) = vacantEntry ∧ ∃ r g, (e.get i).content = .retired r g) := by
    rcases vacateEntry_cases as (e.get i) with ⟨r, g, hc, -, hv⟩ | ⟨-, hk⟩
    · exact .inr ⟨hv, r, g, hc⟩
    · exact .inl hk
  refine h.congr (fun i => ?claim) (fun i => ?waiters) (fun i => ?state) <;>
    rw [mapEntries_get] <;> rcases hentry i with hk | ⟨hv, r, g, hc⟩
  case claim.inl => rw [hk]
  case claim.inr => rw [hv, (h.retired_free hc).1]; rfl
  case waiters.inl => rw [hk]
  case waiters.inr => rw [hv, (h.retired_free hc).2]; rfl
  case state.inl => rw [hk]; exact .of_content rfl
  case state.inr => rw [hv]; exact ⟨fun _ => rfl, fun hl => by simp [Entry.isLive, Entry.live?, hc] at hl⟩

theorem resubscribe (h : ClaimsAgree e d)
    (hsub : ∀ i, ∃ f, e'.get i = (e.get i).mapSubscribers f) : ClaimsAgree e' d := by
  have hentry (x : Entry) (f : PortSet → PortSet) :
      (x.mapSubscribers f).claim = x.claim ∧ (x.mapSubscribers f).waiters = x.waiters ∧
        StateKept x (x.mapSubscribers f) := by
    obtain ⟨c, cl, w⟩ := x
    cases c <;> exact ⟨rfl, rfl, id, id⟩
  refine h.congr (fun i => ?_) (fun i => ?_) (fun i => ?_) <;> obtain ⟨f, hf⟩ := hsub i <;> rw [hf]
  · exact (hentry _ f).1
  · exact (hentry _ f).2.1
  · exact (hentry _ f).2.2

/-- A port joins the waiters of an entry that another port claims (R74). -/
theorem wait {p q : Port} {i : Index} (h : ClaimsAgree e d) (hi : (e.get i).claim = some q)
    (hne : q ≠ p) :
    ClaimsAgree (e.set i.val
      { e.get i with waiters := PortSet.add (e.get i).waiters p } i.isLt) d where
  claimed r j := by
    rw [get_set_entries, ← h.claimed r j]
    split
    next hj => subst hj; exact .rfl
    next => exact .rfl
  size := h.size
  nodup := h.nodup
  noWaiters j hj := by
    rw [get_set_entries] at hj ⊢
    split at hj
    next hji => subst hji; rw [hi] at hj; cases hj
    next hji => rw [if_neg hji]; exact h.noWaiters j hj
  notWaiting j r hj := by
    rw [get_set_entries] at hj ⊢
    split at hj
    next hji =>
      subst hji
      cases hi.symm.trans hj
      rw [if_pos rfl, PortSet.has_add, if_neg hne]
      exact h.notWaiting j q hi
    next hji => rw [if_neg hji]; exact h.notWaiting j r hj
  kind r it hit := by
    refine StateKept.item (.of_content ?_) (h.kind r it hit)
    rw [get_set_entries]
    split
    next hj => rw [hj]
    next => rfl

/-- Without a claim a port's draft holds no item for the entry. -/
theorem no_item (h : ClaimsAgree e d) {i : Index} (hi : (e.get i).claim = none) (p : Port) :
    ∀ it ∈ d.get p, it.index ≠ i := by
  intro it hit hidx
  rw [(h.claimed p i).2 ⟨it, hit, hidx⟩] at hi
  cases hi

theorem itemFor_none {xs : List Item} {i : Index} (h : itemFor xs i = none) :
    ∀ it ∈ xs, it.index ≠ i := by
  simpa [itemFor] using h

theorem itemFor_some {xs : List Item} {i : Index} {it : Item} (h : itemFor xs i = some it) :
    it ∈ xs ∧ it.index = i :=
  ⟨List.mem_of_find?_eq_some h, by simpa using List.find?_some h⟩

/-- A new item at the end of the draft, with its claim (R62, R73). -/
theorem create {p : Port} {i : Index} {c : Change} (h : ClaimsAgree e d)
    (hclaim : (e.get i).claim = none ∨ ((e.get i).claim = some p ∧ itemFor (d.get p) i = none))
    (hspace : (d.get p).length < 16)
    (hstate : if (Item.mk i c).isDefine then (e.get i).isVacant = true
      else (e.get i).isLive = true) :
    ClaimsAgree (e.set i.val { e.get i with claim := some p } i.isLt)
      (d.set p (d.get p ++ [{ index := i, change := c }])) := by
  have hfree : (e.get i).claim = none := by
    rcases hclaim with hc | ⟨hc, hnone⟩
    · exact hc
    · obtain ⟨it, hit, hidx⟩ := (h.claimed p i).1 hc
      exact absurd hidx (itemFor_none hnone it hit)
  have hcontent (j : Index) :
      ((e.set i.val { e.get i with claim := some p } i.isLt).get j).content = (e.get j).content := by
    rw [get_set_entries]
    split
    next hj => rw [hj]
    next => rfl
  refine ⟨fun q j => ?claimed, fun q => ?size, fun q => ?nodup, fun j hj => ?noWaiters,
    fun j q hj => ?notWaiting, fun q it hit => ?kind⟩
  case claimed =>
    rw [get_set_entries, PerPort.get_set]
    by_cases hji : j = i
    · subst hji
      rw [if_pos rfl]
      by_cases hqp : q = p
      · subst hqp; simp
      · rw [if_neg hqp]
        refine iff_of_false (fun hs => hqp (Option.some.inj hs).symm) ?_
        rintro ⟨it, hit, hidx⟩
        exact h.no_item hfree q it hit hidx
    · rw [if_neg hji, h.claimed]
      by_cases hqp : q = p
      · subst hqp
        simp [Ne.symm hji]
      · rw [if_neg hqp]
  case size =>
    rw [PerPort.get_set]
    split
    · rw [List.length_append]; exact hspace
    · exact h.size q
  case nodup =>
    rw [PerPort.get_set]
    split
    · rw [List.map_append]
      refine List.Nodup.append (h.nodup p) (by simp) ?_
      simp only [List.map_cons, List.map_nil, List.disjoint_singleton, List.mem_map, not_exists,
        not_and]
      exact fun it hit => h.no_item hfree p it hit
    · exact h.nodup q
  case noWaiters =>
    rw [get_set_entries] at hj ⊢
    split at hj
    next => cases hj
    next hji => rw [if_neg hji]; exact h.noWaiters j hj
  case notWaiting =>
    rw [get_set_entries] at hj ⊢
    split at hj
    next hji =>
      subst hji
      rw [if_pos rfl, h.noWaiters j hfree]
      exact noPorts_has q
    next hji => rw [if_neg hji]; exact h.notWaiting j q hj
  case kind =>
    refine StateKept.item (.of_content (hcontent it.index)) ?_
    rw [PerPort.get_set] at hit
    split at hit
    next hqp =>
      subst hqp
      rcases List.mem_append.1 hit with hit | hit
      · exact h.kind q it hit
      · rw [List.mem_singleton] at hit
        subst hit
        exact hstate
    next => exact h.kind q it hit

theorem replaceItem_index (xs : List Item) (i : Index) (c : Change) :
    (replaceItem xs i c).map Item.index = xs.map Item.index := by
  rw [replaceItem, List.map_map]
  refine List.map_congr_left fun it _ => ?_
  simp only [Function.comp_apply]
  split <;> rfl

/-- With one item for each entry, the item found is the only one for its entry. -/
theorem eq_of_index {xs : List Item} (hnodup : (xs.map Item.index).Nodup) {a b : Item}
    (ha : a ∈ xs) (hb : b ∈ xs) (h : a.index = b.index) : a = b :=
  List.inj_on_of_nodup_map hnodup ha hb h

/-- A stage merged into an item, which stays a DEFINE or stays none (R71). -/
theorem merge {p : Port} {i : Index} {c : Change} {it : Item} (h : ClaimsAgree e d)
    (hitem : itemFor (d.get p) i = some it) (hkind : (Item.mk i c).isDefine = it.isDefine) :
    ClaimsAgree e (d.set p (replaceItem (d.get p) i c)) := by
  have hmap (q : Port) : ((d.set p (replaceItem (d.get p) i c)).get q).map Item.index =
      (d.get q).map Item.index := by
    rw [PerPort.get_set]
    split
    next hq => rw [hq, replaceItem_index]
    next => rfl
  have hmem (q : Port) (j : Index) : (∃ x ∈ (d.set p (replaceItem (d.get p) i c)).get q,
      x.index = j) ↔ ∃ x ∈ d.get q, x.index = j := by
    rw [← List.mem_map, ← List.mem_map, hmap]
  obtain ⟨hit, hidx⟩ := itemFor_some hitem
  refine ⟨fun q j => (h.claimed q j).trans (hmem q j).symm, fun q => ?size,
    fun q => hmap q ▸ h.nodup q, h.noWaiters, h.notWaiting, fun q x hx => ?kind⟩
  case size =>
    rw [← List.length_map (f := Item.index), hmap, List.length_map]
    exact h.size q
  case kind =>
    rw [PerPort.get_set] at hx
    split at hx
    next hq =>
      subst hq
      obtain ⟨y, hy, rfl⟩ := List.mem_map.1 hx
      by_cases hyi : y.index = i
      · have hyit : y = it := eq_of_index (h.nodup q) hy hit (hyi.trans hidx.symm)
        subst hyit
        simp only [hyi, if_true]
        have := h.kind q y hy
        rw [hyi, ← hkind] at this
        exact this
      · simp only [hyi, if_false]
        exact h.kind q y hy
    next => exact h.kind q x hx

/-- Some items leave a port's draft and their claims end (R75), while the entries may change their content
where no item is left. -/
theorem retract {p : Port} (keep : Item → Bool) (h : ClaimsAgree e d)
    (hclaim : ∀ i, (e'.get i).claim = (e.get i).claim ∧ (e'.get i).waiters = (e.get i).waiters)
    (hstate : ∀ i, (∀ it ∈ d.get p, it.index = i → keep it = true) →
      StateKept (e.get i) (e'.get i)) :
    ClaimsAgree (dropClaims e' ((d.get p).filter fun it => !keep it))
      (d.set p ((d.get p).filter keep)) := by
  -- The entry of a dropped item was claimed by p.
  have hdropped (i : Index) :
      ((d.get p).filter fun it => !keep it).any (fun it => it.index == i) = true ↔
        ∃ it ∈ d.get p, keep it = false ∧ it.index = i := by
    simp
  have hp (i : Index) (hi : ∃ it ∈ d.get p, keep it = false ∧ it.index = i) :
      (e.get i).claim = some p := by
    obtain ⟨it, hit, -, hidx⟩ := hi
    exact (h.claimed p i).2 ⟨it, hit, hidx⟩
  have hget (i : Index) : (dropClaims e' ((d.get p).filter fun it => !keep it)).get i =
      if ∃ it ∈ d.get p, keep it = false ∧ it.index = i then
        { e'.get i with claim := none, waiters := noPorts } else e'.get i := by
    rw [dropClaims_get]
    exact if_congr (hdropped i) rfl rfl
  have hkept (q : Port) (it : Item) (hit : it ∈ (d.set p ((d.get p).filter keep)).get q) :
      it ∈ d.get q ∧ ¬ ∃ x ∈ d.get p, keep x = false ∧ x.index = it.index := by
    rw [PerPort.get_set] at hit
    split at hit
    next hq =>
      subst hq
      obtain ⟨hmem, hk⟩ := List.mem_filter.1 hit
      refine ⟨hmem, fun ⟨x, hx, hkx, hidx⟩ => ?_⟩
      rw [eq_of_index (h.nodup q) hx hmem hidx, hk] at hkx
      cases hkx
    next hq =>
      refine ⟨hit, fun hx => hq ?_⟩
      have hcq := (h.claimed q it.index).2 ⟨it, hit, rfl⟩
      exact Option.some.inj (hcq.symm.trans (hp it.index hx))
  refine ⟨fun q i => ?claimed, fun q => ?size, fun q => ?nodup, fun i hi => ?noWaiters,
    fun i q hi => ?notWaiting, fun q it hit => ?kind⟩
  case claimed =>
    rw [hget]
    constructor
    · intro hi
      split at hi
      next => cases hi
      next hno =>
        rw [(hclaim i).1] at hi
        obtain ⟨it, hit, hidx⟩ := (h.claimed q i).1 hi
        refine ⟨it, ?_, hidx⟩
        rw [PerPort.get_set]
        split
        next hq =>
          subst hq
          refine List.mem_filter.2 ⟨hit, ?_⟩
          by_contra hk
          exact hno ⟨it, hit, Bool.eq_false_iff.2 hk, hidx⟩
        next => exact hit
    · rintro ⟨it, hit, rfl⟩
      obtain ⟨hmem, hno⟩ := hkept q it hit
      rw [if_neg hno, (hclaim it.index).1]
      exact (h.claimed q it.index).2 ⟨it, hmem, rfl⟩
  case size =>
    rw [PerPort.get_set]
    split
    · exact (List.length_filter_le _ _).trans (h.size p)
    · exact h.size q
  case nodup =>
    rw [PerPort.get_set]
    split
    · exact (h.nodup p).sublist (List.filter_sublist.map _)
    · exact h.nodup q
  case noWaiters =>
    rw [hget] at hi ⊢
    split at hi
    next hd => rw [if_pos hd]
    next hd => rw [if_neg hd, (hclaim i).2]; exact h.noWaiters i ((hclaim i).1 ▸ hi)
  case notWaiting =>
    rw [hget] at hi ⊢
    split at hi
    next => cases hi
    next hd => rw [if_neg hd, (hclaim i).2]; exact h.notWaiting i q ((hclaim i).1 ▸ hi)
  case kind =>
    obtain ⟨hmem, hno⟩ := hkept q it hit
    rw [hget, if_neg hno]
    refine StateKept.item (hstate it.index fun x hx hidx => ?_) (h.kind q it hmem)
    by_contra hk
    exact hno ⟨x, hx, Bool.eq_false_iff.2 hk, hidx⟩

theorem takeOut (p : Port) (i : Index) (h : ClaimsAgree e d) :
    ClaimsAgree (dropClaims e ((d.get p).filter fun it => it.index == i))
      (d.set p (removeItem (d.get p) i)) := by
  have := h.retract (p := p) (fun it => it.index != i) (fun _ => ⟨rfl, rfl⟩)
    (fun _ _ => .of_content rfl)
  simpa [removeItem, bne] using this

/-- The whole draft leaves, the entries changed at its items (R75, R103). -/
theorem retractAll {p : Port} (h : ClaimsAgree e d)
    (hclaim : ∀ i, (e'.get i).claim = (e.get i).claim ∧ (e'.get i).waiters = (e.get i).waiters)
    (hstate : ∀ i, (∀ it ∈ d.get p, it.index ≠ i) → StateKept (e.get i) (e'.get i)) :
    ClaimsAgree (dropClaims e' (d.get p)) (d.set p []) := by
  have := h.retract (p := p) (fun _ => false) hclaim fun i hi =>
    hstate i fun it hit hidx => nomatch hi it hit hidx
  simpa using this

theorem empty (p : Port) (h : ClaimsAgree e d) :
    ClaimsAgree (dropClaims e (d.get p)) (d.set p []) :=
  h.retractAll (fun _ => ⟨rfl, rfl⟩) (fun _ _ => .of_content rfl)

/-- A port's waits dropped from every entry (R167). -/
theorem dropWaits (p : Port) (h : ClaimsAgree e d) :
    ClaimsAgree (mapEntries (fun x => { x with waiters := PortSet.drop x.waiters p }) e) d where
  claimed q i := by rw [mapEntries_get]; exact h.claimed q i
  size := h.size
  nodup := h.nodup
  noWaiters i hi := by
    rw [mapEntries_get] at hi ⊢
    simp only at hi ⊢
    rw [h.noWaiters i hi, noPorts_drop]
  notWaiting i q hi := by
    rw [mapEntries_get] at hi ⊢
    simp only at hi ⊢
    rw [PortSet.has_drop, h.notWaiting i q hi, ite_self]
  kind q it hit := by
    refine StateKept.item (.of_content ?_) (h.kind q it hit)
    rw [mapEntries_get]

theorem release (p : Port) (g : Gen) (h : ClaimsAgree e d) :
    ClaimsAgree (dropClaims (postState p g (d.get p) e) (d.get p)) (d.set p []) := by
  refine h.retractAll (postState_claim p g (d.get p) e) fun i hi => ?_
  rw [postState_get_of_not_mem hi]
  exact .of_content rfl

/-- A table without claims and drafts. -/
theorem of_free (hfree : ∀ i, (e.get i).claim = none ∧ (e.get i).waiters = noPorts)
    (hd : ∀ p, d.get p = []) : ClaimsAgree e d where
  claimed p i := by simp [hd p, (hfree i).1]
  size p := by simp [hd p]
  nodup p := by simp [hd p]
  noWaiters i _ := (hfree i).2
  notWaiting i p hi := by rw [(hfree i).1] at hi; cases hi
  kind p it hit := by simp [hd p] at hit

end ClaimsAgree

/-! ### The table after a wipe and a load -/

@[simp] theorem resetTable_get (i : Index) : resetTable.entries.get i = vacantEntry := by
  simp [resetTable, Vector.get_eq_getElem]

theorem resetTable_draft (p : Port) : resetTable.drafts.get p = [] := by cases p <;> rfl

theorem loadRecord_get (t : TableController) (r : RetainedRecord) (i : Index) :
    (loadRecord t r).entries.get i =
      if i = r.index then { content := .live (loadedRec r), claim := none, waiters := noPorts }
      else t.entries.get i :=
  get_set_entries t.entries r.index i _

/-- A load leaves drafts, anchors and G alone. -/
theorem loadRecords_frame (rs : List RetainedRecord) (t : TableController) :
    (rs.foldl loadRecord t).drafts = t.drafts ∧ (rs.foldl loadRecord t).anchors = t.anchors ∧
      (rs.foldl loadRecord t).saveAnchor = t.saveAnchor ∧ (rs.foldl loadRecord t).g = t.g := by
  induction rs generalizing t with
  | nil => exact ⟨rfl, rfl, rfl, rfl⟩
  | cons r rs ih => exact ih (loadRecord t r)

/-- An entry after a load: as it stood, or made of a record of the image (R190). -/
theorem loadRecords_get (rs : List RetainedRecord) (t : TableController) (i : Index) :
    (rs.foldl loadRecord t).entries.get i = t.entries.get i ∨
      ∃ r ∈ rs, r.index = i ∧ (rs.foldl loadRecord t).entries.get i =
        { content := .live (loadedRec r), claim := none, waiters := noPorts } := by
  induction rs generalizing t with
  | nil => exact .inl rfl
  | cons x xs ih =>
    rw [List.foldl_cons]
    rcases ih (loadRecord t x) with h | ⟨r, hr, hidx, h⟩
    · rw [h, loadRecord_get]
      split
      next hi => exact .inr ⟨x, .head _, hi.symm, rfl⟩
      next => exact .inl rfl
    · exact .inr ⟨r, .tail _ hr, hidx, h⟩

theorem loaded_claims (rs : List RetainedRecord) :
    ClaimsAgree (rs.foldl loadRecord resetTable).entries
      (rs.foldl loadRecord resetTable).drafts := by
  refine .of_free (fun i => ?_) fun p => ?_
  · rcases loadRecords_get rs resetTable i with h | ⟨r, -, -, h⟩
    · rw [h, resetTable_get]; exact ⟨rfl, rfl⟩
    · rw [h]; exact ⟨rfl, rfl⟩
  · rw [(loadRecords_frame rs resetTable).1, resetTable_draft]

/-! ### Every move keeps the law -/

theorem released_entries (p : Port) (t : TableController) :
    (released p t).entries = dropClaims (postState p (t.g + 1) (t.drafts.get p) t.entries)
        (t.drafts.get p) ∨
      (released p t).entries = mapEntries (vacateEntry (heldAnchors (released p t)))
        (dropClaims (postState p (t.g + 1) (t.drafts.get p) t.entries) (t.drafts.get p)) := by
  unfold released
  split
  · exact .inr rfl
  · exact .inl rfl

theorem released_drafts (p : Port) (t : TableController) :
    (released p t).drafts = t.drafts.set p [] := by
  unfold released
  split <;> rfl

theorem claimsAgree_coreMove {t t' : TableController} (hm : CoreMove t t')
    (h : ClaimsAgree t.entries t.drafts) : ClaimsAgree t'.entries t'.drafts := by
  cases hm with
  | subscribe e hsub => exact h.resubscribe hsub
  | wait p q i hi hne => exact h.wait hi hne
  | create p i c hclaim hspace hstate => exact h.create hclaim hspace hstate
  | merge p i c it hitem hkind => exact h.merge hitem hkind
  | takeOut p i => exact h.takeOut p i
  | empty p => exact h.empty p
  | sessionEnd p =>
    exact (((h.empty p).resubscribe fun i => ⟨_, mapEntries_get _ _ i⟩).dropWaits p).vacate _
  | anchor p => exact h.vacate _
  | unanchor p => exact h.vacate _
  | release p hg hpass =>
    rw [released_drafts]
    rcases released_entries p t with he | he <;> rw [he]
    · exact h.release p _
    · exact (h.release p _).vacate _

theorem claimsAgree_move {im : List RetainedRecord} {t t' : TableController}
    (hm : TableMove im t t') (h : ClaimsAgree t.entries t.drafts) :
    ClaimsAgree t'.entries t'.drafts := by
  cases hm with
  | core _ hm => exact claimsAgree_coreMove hm h
  | saveAnchor => exact h
  | unsaveAnchor => exact h.vacate _
  | wipe => exact loaded_claims []
  | load => exact loaded_claims im

/-! ### The start-up mark (R163, R189) -/

theorem startup_false_of_nextGrant {s : State} {r : Requester} (h : nextGrant s = some r) :
    s.save.startup = false := by
  have hmay := (nextGrant_some h).1
  simp only [mayGrant, Bool.and_eq_true, Bool.not_eq_eq_eq_not, Bool.not_true] at hmay
  exact hmay.1.2

theorem op_none_of_nextGrant {s : State} {r : Requester} (h : nextGrant s = some r) :
    s.arbiter.op = none := by
  have hmay := (nextGrant_some h).1
  simp only [mayGrant, Bool.and_eq_true, Option.isNone_iff_eq_none] at hmay
  exact hmay.2

theorem opTableWipe_startup (s : State) : (opTableWipe s).1.save.startup = s.save.startup := by
  simp only [opTableWipe]
  split <;> rfl

theorem runTableCmd_startup (p : Port) (c : TableCmd) (s : State) :
    (runTableCmd p c s).1.save.startup = s.save.startup := by
  rcases tableCmd_cases c with rfl | rfl | rfl | ⟨hs, hw, hr⟩
  · exact congrArg SaveEngine.startup (opSaveStart_frame p s).save
  · exact opTableWipe_startup s
  · rcases opTableReload_state s with ⟨-, h, -⟩ | ⟨-, h, -⟩ <;> simp only [runTableCmd, h]
    rfl
  · rw [(runTableCmd_work s hs hw hr).frame.save]

theorem advanceSave_startup (s : State) : (advanceSave s).save.startup = s.save.startup := by
  simp only [advanceSave]
  split <;> rfl

theorem runFinish_startup (f : Finish) (s : State) :
    (runFinish f s).save.startup = s.save.startup := by
  cases f with
  | plain => rfl
  | session p re => cases re <;> rfl
  | wipe ends => cases ends <;> rfl
  | reload => rfl
  | saveStart p gs => rfl
  | copy v =>
    simp only [runFinish, finishCopy]
    split
    · rfl
    · cases v with
      | noRecord => exact advanceSave_startup s
      | torn => rfl
      | record r => rfl
  | saveEnd => rfl

theorem storeWork_startup (v : Bool) (s : State) :
    (eraseComplete v s).save.startup = s.save.startup ∧
      (programComplete v s).save.startup = s.save.startup ∧
      (headerComplete v s).save.startup = s.save.startup ∧
      (reeraseComplete v s).save.startup = s.save.startup := by
  refine ⟨?erase, ?program, ?header, ?reerase⟩
  case erase =>
    simp only [eraseComplete]
    split
    · split <;> rfl
    · rfl
  case program =>
    simp only [programComplete]
    split
    · split
      · rw [advanceSave_startup]
        split <;> rfl
      · rfl
    · rfl
  case header =>
    simp only [headerComplete]
    split
    · split
      · split <;> rfl
      · rfl
    · rfl
  case reerase =>
    simp only [reeraseComplete]
    split
    · split
      · split <;> rfl
      · rfl
    · rfl

/-- The start-up mark stands after a chip reset, or where it stood with the table left alone. -/
theorem effect_startup {s t : State} (h : Effect s t) (ht : t.save.startup = true) :
    t.table = resetTable ∨ (s.save.startup = true ∧ t.table = s.table) := by
  cases h with
  | ports f => exact .inr ⟨ht, rfl⟩
  | take p c f g =>
    by_cases hc : c = .saveAbort
    · subst hc
      rcases portSaveAbort_state p (s.withPorts f) with h | ⟨h, -⟩ <;>
        simp only [runPortCmd, h] at ht ⊢ <;> exact .inr ⟨ht, rfl⟩
    · obtain ⟨u, d, a, n, h, -⟩ := runPortCmd_state p c (s.withPorts f) hc
      rw [h] at ht ⊢
      exact .inr ⟨ht, rfl⟩
  | timer tm => exact .inr ⟨ht, rfl⟩
  | grantPort p hgrant =>
    have hs := startup_false_of_nextGrant hgrant
    cases hu : (s.port p).unit with
    | none => rw [grantPort_none hu] at ht; exact absurd (hs.symm.trans ht) nofun
    | some f =>
      rw [grantPort_some hu] at ht
      have hkeep := runTableCmd_startup p f.cmd (requestDropped p s)
      exact absurd ((hs.symm.trans hkeep.symm).trans ht) nofun
  | grantExpiry e n hgrant =>
    have hs := startup_false_of_nextGrant hgrant
    have hkeep := congrArg SaveEngine.startup (runExpiry_work e (expiryDropped e n s)).frame.save
    exact absurd ((hs.symm.trans hkeep.symm).trans ht) nofun
  | grantSave r hgrant _ =>
    have hs := startup_false_of_nextGrant hgrant
    cases r with
    | copy => exact absurd (hs.symm.trans ht) nofun
    | finish =>
      have hkeep := congrArg SaveEngine.startup
        (opSaveEnd_frame (s.withSave { s.save with request := none })).save
      exact absurd ((hs.symm.trans hkeep.symm).trans ht) nofun
  | complete =>
    cases ho : s.arbiter.op with
    | none => rw [completeOperation_none ho] at ht ⊢; exact .inr ⟨ht, rfl⟩
    | some op =>
      obtain ⟨f, hf⟩ := completeOperation_some ho
      rw [hf] at ht ⊢
      exact .inr ⟨(runFinish_startup op.finish s).symm.trans ht,
        (runFinish_frame op.finish s).table⟩
  | erase v =>
    exact .inr ⟨(storeWork_startup v s).1.symm.trans ht,
      (eraseComplete_only v s).table⟩
  | program v =>
    exact .inr ⟨(storeWork_startup v s).2.1.symm.trans ht,
      (programComplete_only v s).table⟩
  | header v =>
    exact .inr ⟨(storeWork_startup v s).2.2.1.symm.trans ht,
      (headerComplete_only v s).table⟩
  | reerase v =>
    exact .inr ⟨(storeWork_startup v s).2.2.2.symm.trans ht,
      (reeraseComplete_only v s).table⟩
  | resetFalls =>
    cases hr : s.nreset with
    | false => rw [resetFalls_of_low hr] at ht ⊢; exact .inr ⟨ht, rfl⟩
    | true => rw [resetFalls_of_high hr]; exact .inl rfl
  | resetRises => exact .inl rfl
  | startupLoad _ => exact absurd ht nofun

theorem startupLaw_effect {s t : State} (h : Effect s t) (hs : startupLaw s) : startupLaw t := by
  intro ht
  rcases effect_startup h ht with hreset | ⟨hmark, htable⟩
  · exact hreset
  · exact htable.trans (hs hmark)

/-- Where the start-up law holds, a load at start-up is a load of an empty table, so that every row makes
one move of the table at most. -/
theorem effect_move {s t : State} (h : Effect s t) (hs : startupLaw s) :
    t.table = s.table ∨ TableMove (storedImage s.store) s.table t.table := by
  rcases effect_table h with heq | hm | ⟨hmark, heq⟩
  · exact .inl heq
  · exact .inr hm
  · rw [heq, hs hmark]
    exact .inr .load

/-- A law of the table that every move keeps is kept by every step. -/
theorem tableLaw_step {P : TableController → Prop} {s t : State}
    (hP : ∀ t', TableMove (storedImage s.store) s.table t' → P s.table → P t')
    (hs : startupLaw s) (hlaw : P s.table) (h : step s = .next t) : P t.table := by
  obtain ⟨q, he⟩ := effect_of_step h
  rcases effect_move he hs with heq | hm
  · rw [heq]; exact hlaw
  · exact hP _ hm hlaw

/-- Settles O54: every move keeps claims, waiters and drafts in agreement; the start-up mark is set by a chip
reset alone. -/
theorem claimsKept : Obligations.ClaimsKept := by
  intro s t hs hlaw h
  obtain ⟨q, he⟩ := effect_of_step h
  refine ⟨startupLaw_effect he hs, (claimLaw_iff t).2 ?_⟩
  exact tableLaw_step (P := fun t => ClaimsAgree t.entries t.drafts)
    (fun _ hm => claimsAgree_move hm) hs ((claimLaw_iff s).1 hlaw) h

end Sys2Proof.Proofs

/-! PROOF. Generations (R13, R15 to R19, R45, R115): the stamps of every entry in order, every anchor at or
below G and every RETIRED entry held, after every move; and the save anchor within its save (R177). -/

namespace Sys2Proof.Proofs
open Sys2Proof.Machine

/-! ### The next generation (R13) -/

/-- Below the last generation the advance does not wrap. -/
theorem lt_next_gen {g : Gen} (h : g ≠ Config.lastGen) : g < g + 1 := by
  have hne : g.toNat ≠ 4294967295 := fun e => h (BitVec.eq_of_toNat_eq e)
  have hsum : (g + 1).toNat = (g.toNat + 1) % 4294967296 := BitVec.toNat_add g 1
  have hbound := g.isLt
  rw [BitVec.lt_def, hsum]
  omega

/-! ### The law on the table alone -/

/-- R19, R45, R115 on the table alone. -/
structure GenLaw (t : TableController) : Prop where
  stamps : ∀ i, entryGenLaw t.g (t.entries.get i).content
  anchors : ∀ a ∈ heldAnchors t, a ≤ t.g
  held : ∀ i r rg, (t.entries.get i).content = .retired r rg → isHeld (heldAnchors t) rg = true

theorem generationLaw_iff (s : State) : generationLaw s ↔ GenLaw s.table :=
  ⟨fun ⟨hstamps, hanchors, hheld⟩ => ⟨hstamps, hanchors, hheld⟩,
    fun h => ⟨h.stamps, h.anchors, h.held⟩⟩

theorem mem_heldAnchors (t : TableController) (a : Gen) :
    a ∈ heldAnchors t ↔ (∃ p, t.anchors.get p = some a) ∨ t.saveAnchor = some a := by
  have hport : (∃ p, t.anchors.get p = some a) ↔ t.anchors.p0 = some a ∨ t.anchors.p1 = some a ∨
      t.anchors.p2 = some a ∨ t.anchors.p3 = some a := by
    constructor
    · rintro ⟨p, hp⟩
      cases p
      · exact .inl hp
      · exact .inr (.inl hp)
      · exact .inr (.inr (.inl hp))
      · exact .inr (.inr (.inr hp))
    · rintro (h | h | h | h)
      · exact ⟨.P0, h⟩
      · exact ⟨.P1, h⟩
      · exact ⟨.P2, h⟩
      · exact ⟨.P3, h⟩
  rw [hport, heldAnchors, List.mem_filterMap]
  simp only [List.mem_cons, List.not_mem_nil, or_false, id_eq, exists_eq_right]
  tauto

theorem isHeld_iff (as : List Gen) (rg : Gen) : isHeld as rg = true ↔ ∃ a ∈ as, a < rg := by
  simp [isHeld]

namespace GenLaw

variable {t t' : TableController}

/-- Entries that keep the law of stamps, and RETIRED entries that were RETIRED before: the law stays. -/
theorem congr (h : GenLaw t) (hg : t'.g = t.g) (ha : heldAnchors t' = heldAnchors t)
    (hentry : ∀ i, entryGenLaw t.g (t.entries.get i).content →
      entryGenLaw t.g (t'.entries.get i).content)
    (hretired : ∀ i r rg, (t'.entries.get i).content = .retired r rg →
      ∃ r', (t.entries.get i).content = .retired r' rg) : GenLaw t' where
  stamps i := by rw [hg]; exact hentry i (h.stamps i)
  anchors a hmem := by rw [hg]; exact h.anchors a (ha ▸ hmem)
  held i r rg hi := by
    obtain ⟨r', hr'⟩ := hretired i r rg hi
    rw [ha]
    exact h.held i r' rg hr'

theorem of_content (h : GenLaw t) (hg : t'.g = t.g) (ha : heldAnchors t' = heldAnchors t)
    (hc : ∀ i, (t'.entries.get i).content = (t.entries.get i).content) : GenLaw t' :=
  h.congr hg ha (fun i hi => by rw [hc]; exact hi) (fun i r rg hi => ⟨r, hc i ▸ hi⟩)

/-- After the vacate test every RETIRED entry left is held, whatever the anchors (R116). -/
theorem vacate (hstamps : ∀ i, entryGenLaw t.g (t.entries.get i).content)
    (hanchors : ∀ a ∈ heldAnchors t, a ≤ t.g) : GenLaw (vacated t) where
  stamps i := by
    rw [vacated_get]
    rcases vacateEntry_cases (heldAnchors t) (t.entries.get i) with ⟨r, g, -, -, hv⟩ | ⟨-, hk⟩
    · rw [hv]; trivial
    · rw [hk]; exact hstamps i
  anchors := hanchors
  held i r rg hi := by
    rw [vacated_get] at hi
    rcases vacateEntry_cases (heldAnchors t) (t.entries.get i) with ⟨r', g, -, -, hv⟩ | ⟨hheld, hk⟩
    · rw [hv] at hi; cases hi
    · rw [hk] at hi; exact hheld r rg hi

/-- The vacate test after a change of the anchors to none or to G. -/
theorem revacate (h : GenLaw t) {as : PerPort (Option Gen)} {sa : Option Gen}
    (hports : ∀ p, as.get p = t.anchors.get p ∨ as.get p = none ∨ as.get p = some t.g)
    (hsave : sa = t.saveAnchor ∨ sa = none) :
    GenLaw (vacated { t with anchors := as, saveAnchor := sa }) := by
  refine vacate h.stamps fun a ha => ?_
  rw [mem_heldAnchors] at ha
  rcases ha with ⟨p, hp⟩ | hs
  · rcases hports p with he | he | he
    · exact h.anchors a ((mem_heldAnchors t a).2 (.inl ⟨p, he ▸ hp⟩))
    · cases he.symm.trans hp
    · cases he.symm.trans hp
      exact BitVec.le_refl t.g
  · rcases hsave with he | he
    · exact h.anchors a ((mem_heldAnchors t a).2 (.inr (he ▸ hs)))
    · cases he.symm.trans hs

theorem resubscribe (h : GenLaw t) {e : Entries} (hsub : Resubscribed t e) :
    GenLaw { t with entries := e } := by
  refine h.congr rfl rfl (fun i hi => ?_) (fun i r rg hi => ?_) <;> obtain ⟨f, hf⟩ := hsub i
  · show entryGenLaw t.g (e.get i).content
    rw [hf]
    revert hi
    obtain ⟨c, cl, w⟩ := t.entries.get i
    cases c <;> exact id
  · have hi' : (e.get i).content = .retired r rg := hi
    rw [hf] at hi'
    revert hi'
    obtain ⟨c, cl, w⟩ := t.entries.get i
    cases c with
    | vacant => exact fun h => nomatch h
    | live r' => exact fun h => nomatch h
    | retired r' g' => exact fun h => by cases h; exact ⟨r', rfl⟩

/-- The save anchor set at G, where none was held (R178). -/
theorem setSaveAnchor (h : GenLaw t) (hnone : t.saveAnchor = none) :
    GenLaw { t with saveAnchor := some t.g } where
  stamps := h.stamps
  anchors a ha := by
    rw [mem_heldAnchors] at ha
    rcases ha with hp | hs
    · exact h.anchors a ((mem_heldAnchors t a).2 (.inl hp))
    · cases hs; exact BitVec.le_refl t.g
  held i r rg hi := by
    obtain ⟨a, ha, hlt⟩ := (isHeld_iff _ rg).1 (h.held i r rg hi)
    refine (isHeld_iff _ rg).2 ⟨a, ?_, hlt⟩
    rw [mem_heldAnchors] at ha ⊢
    rcases ha with hp | hs
    · exact .inl hp
    · cases hnone.symm.trans hs

end GenLaw

/-! ### The release (R15 to R18, R103) -/

theorem recGenLaw_mono {g g' : Gen} {r : Rec} (hg : g ≤ g') (h : recGenLaw g r) : recGenLaw g' r := by
  obtain ⟨hborn, hchanged, hprior⟩ := h
  exact ⟨hborn, BitVec.le_trans hchanged hg, hprior⟩

theorem entryGenLaw_mono {g g' : Gen} {c : Content} (hg : g ≤ g') (h : entryGenLaw g c) :
    entryGenLaw g' c := by
  cases c with
  | vacant => trivial
  | live r => exact recGenLaw_mono hg h
  | retired r rg => exact ⟨recGenLaw_mono hg h.1, h.2⟩

/-- A record that takes the new G shifts an older stamp into prior. -/
theorem recGenLaw_stamped {g g' : Gen} {r r' : Rec} (hlt : g < g') (h : recGenLaw g r)
    (hborn : r'.bornGen = r.bornGen) (hchanged : r'.changedGen = g')
    (hprior : r'.prior = some { value := r.value, gen := r.changedGen }) : recGenLaw g' r' := by
  obtain ⟨hb, hc, -⟩ := h
  refine ⟨?_, ?_, fun q hq => ?_⟩
  · rw [hborn, hchanged]
    exact BitVec.le_trans hb (BitVec.le_trans hc (BitVec.le_of_lt hlt))
  · rw [hchanged]; exact BitVec.le_refl g'
  · rw [hprior] at hq
    cases hq
    rw [hchanged]
    exact Nat.lt_of_le_of_lt hc hlt

theorem recGenLaw_stampChange {g g' : Gen} {r : Rec} (low high v : Word) (hlt : g < g')
    (h : recGenLaw g r) : recGenLaw g' (stampChange r low high v g') := by
  unfold stampChange
  split
  · exact recGenLaw_mono (BitVec.le_of_lt hlt) h
  · exact recGenLaw_stamped hlt h rfl rfl rfl

/-- What an item makes of an entry, by the entry's state (R91): a SET, REBOUND or RETIRE of a LIVE one, a
DEFINE of a VACANT one, and anything else leaves it. -/
theorem postContent_cases (p : Port) (g : Gen) (c : Content) (ch : Change) :
    (∃ r lo hi v, c = .live r ∧ ch ≠ .retire ∧
        postContent p g c ch = .live (stampChange r lo hi v g)) ∨
      (∃ r, c = .live r ∧ ch = .retire ∧ postContent p g c ch = .retired (stampRetire r g) g) ∨
      (∃ d, c = .vacant ∧ ch = .define d ∧ postContent p g c ch = .live (definedRec p d g)) ∨
      postContent p g c ch = c := by
  cases ch with
  | set v =>
    cases c with
    | live r => exact .inl ⟨r, _, _, _, rfl, nofun, rfl⟩
    | vacant => exact .inr (.inr (.inr rfl))
    | retired r rg => exact .inr (.inr (.inr rfl))
  | define d =>
    cases c with
    | vacant => exact .inr (.inr (.inl ⟨d, rfl, rfl, rfl⟩))
    | live r => exact .inr (.inr (.inr rfl))
    | retired r rg => exact .inr (.inr (.inr rfl))
  | rebound lo hi v =>
    cases c with
    | live r => exact .inl ⟨r, _, _, _, rfl, nofun, rfl⟩
    | vacant => exact .inr (.inr (.inr rfl))
    | retired r rg => exact .inr (.inr (.inr rfl))
  | retire =>
    cases c with
    | live r => exact .inr (.inl ⟨r, rfl, rfl, rfl⟩)
    | vacant => exact .inr (.inr (.inr rfl))
    | retired r rg => exact .inr (.inr (.inr rfl))

theorem entryGenLaw_post {p : Port} {g g' : Gen} {c : Content} (ch : Change) (hlt : g < g')
    (h : entryGenLaw g c) : entryGenLaw g' (postContent p g' c ch) := by
  rcases postContent_cases p g' c ch with
    ⟨r, lo, hi, v, rfl, -, hp⟩ | ⟨r, rfl, -, hp⟩ | ⟨d, rfl, -, hp⟩ | hp <;> rw [hp]
  · exact recGenLaw_stampChange lo hi v hlt h
  · exact ⟨recGenLaw_stamped hlt h rfl rfl rfl, rfl⟩
  · exact ⟨BitVec.le_refl g', BitVec.le_refl g', nofun⟩
  · exact entryGenLaw_mono (BitVec.le_of_lt hlt) h

/-- A stamp goes with a change of value, low or high (R15). -/
theorem stampChange_of_same {r : Rec} {lo hi v : Word} {g : Gen}
    (h : contentChanged (.live r) (.live (stampChange r lo hi v g)) = false) :
    stampChange r lo hi v g = r := by
  unfold stampChange at h ⊢
  split
  next => rfl
  next hdiff =>
    rw [if_neg hdiff] at h
    simp only [contentChanged, Bool.not_eq_eq_eq_not, Bool.not_false, Bool.and_eq_true,
      beq_iff_eq] at h
    obtain ⟨⟨hv, hlo⟩, hhi⟩ := h
    exact absurd ⟨hlo.symm, hhi.symm, hv.symm⟩ hdiff

/-- An entry that the release does not change keeps every field (R103). -/
theorem postContent_of_unchanged {p : Port} {g : Gen} {c : Content} {ch : Change}
    (h : contentChanged c (postContent p g c ch) = false) : postContent p g c ch = c := by
  rcases postContent_cases p g c ch with
    ⟨r, lo, hi, v, rfl, -, hp⟩ | ⟨r, rfl, -, hp⟩ | ⟨d, rfl, -, hp⟩ | hp
  · rw [hp] at h ⊢
    rw [stampChange_of_same h]
  · rw [hp] at h; cases h
  · rw [hp] at h; cases h
  · exact hp

/-- The items leave an entry alone, or it is the entry of one of them. -/
theorem postState_cases {p : Port} {g : Gen} {items : List Item}
    (hnodup : (items.map Item.index).Nodup) (t : Entries) (i : Index) :
    ((∀ it ∈ items, it.index ≠ i) ∧ (postState p g items t).get i = t.get i) ∨
      ∃ it ∈ items, it.index = i ∧
        (postState p g items t).get i = postEntry p g (t.get i) it.change := by
  by_cases h : ∃ it ∈ items, it.index = i
  · obtain ⟨it, hit, rfl⟩ := h
    exact .inr ⟨it, hit, rfl, postState_get_of_mem hnodup hit t⟩
  · have hno : ∀ it ∈ items, it.index ≠ i := fun it hit hi => h ⟨it, hit, hi⟩
    exact .inl ⟨hno, postState_get_of_not_mem hno t⟩

theorem dropClaims_content (items : List Item) (t : Entries) (i : Index) :
    ((dropClaims t items).get i).content = (t.get i).content := by
  rw [dropClaims_get]
  split <;> rfl

theorem releasedTable_content (p : Port) (items : List Item) (post : Entries) (t : TableController)
    (i : Index) : ((releasedTable p items post t).entries.get i).content = (post.get i).content :=
  dropClaims_content items post i

/-- G after a release bounds every stamp it made: where nothing changed, none was made (R102). -/
theorem stamps_released {p : Port} {t : TableController}
    (hnodup : ((t.drafts.get p).map Item.index).Nodup) (hg : t.g ≠ Config.lastGen)
    (hstamps : ∀ i, entryGenLaw t.g (t.entries.get i).content) (i : Index) :
    entryGenLaw (nextGen t.g (changedCount t.entries
        (postState p (t.g + 1) (t.drafts.get p) t.entries) (t.drafts.get p)))
      ((postState p (t.g + 1) (t.drafts.get p) t.entries).get i).content := by
  have hlt := lt_next_gen hg
  unfold nextGen
  split
  next hcount =>
    have hunchanged : ∀ it ∈ t.drafts.get p, itemChanged t.entries
        (postState p (t.g + 1) (t.drafts.get p) t.entries) it = false := by
      intro it hit
      have := List.countP_eq_zero.1 hcount it hit
      simpa using this
    rcases postState_cases (p := p) (g := t.g + 1) hnodup t.entries i with ⟨-, h⟩ | ⟨it, hit, rfl, h⟩
    · rw [h]; exact hstamps i
    · have hsame := hunchanged it hit
      unfold itemChanged at hsame
      rw [h] at hsame ⊢
      have hkeep : postContent p (t.g + 1) (t.entries.get it.index).content it.change =
        (t.entries.get it.index).content := postContent_of_unchanged hsame
      show entryGenLaw t.g (postContent _ _ _ _)
      rw [hkeep]
      exact hstamps it.index
  next =>
    rcases postState_cases (p := p) (g := t.g + 1) hnodup t.entries i with ⟨-, h⟩ | ⟨it, -, -, h⟩ <;>
      rw [h]
    · exact entryGenLaw_mono (BitVec.le_of_lt hlt) (hstamps i)
    · exact entryGenLaw_post it.change hlt (hstamps i)

theorem le_nextGen {g : Gen} (hg : g ≠ Config.lastGen) (n : Nat) : g ≤ nextGen g n := by
  unfold nextGen
  split
  · exact BitVec.le_refl g
  · exact BitVec.le_of_lt (lt_next_gen hg)

/-- Without a RETIRE item no entry becomes RETIRED. -/
theorem retired_of_post {p : Port} {g : Gen} {items : List Item} {t : Entries} {i : Index} {r : Rec}
    {rg : Gen} (hnodup : (items.map Item.index).Nodup) (hno : items.any Item.isRetire = false)
    (h : ((postState p g items t).get i).content = .retired r rg) :
    (t.get i).content = .retired r rg := by
  rcases postState_cases (p := p) (g := g) hnodup t i with ⟨-, he⟩ | ⟨it, hit, -, he⟩ <;> rw [he] at h
  · exact h
  · have hkeep : it.change ≠ .retire := by
      intro hc
      have := List.any_eq_false.1 hno it hit
      simp [Item.isRetire, hc] at this
    have h' : postContent p g (t.get i).content it.change = .retired r rg := h
    rcases postContent_cases p g (t.get i).content it.change with
      ⟨r', lo, hi, v, -, -, hp⟩ | ⟨r', -, hc, -⟩ | ⟨d, -, -, hp⟩ | hp
    · rw [hp] at h'; cases h'
    · exact absurd hc hkeep
    · rw [hp] at h'; cases h'
    · rw [hp] at h'; exact h'

theorem genLaw_released {p : Port} {t : TableController}
    (hnodup : ((t.drafts.get p).map Item.index).Nodup) (hg : t.g ≠ Config.lastGen) (h : GenLaw t) :
    GenLaw (released p t) := by
  have hstamps (i : Index) := by
    have := stamps_released hnodup hg h.stamps i
    rwa [← releasedTable_content p (t.drafts.get p) _ t i] at this
  have hanchors : ∀ a ∈ heldAnchors t, a ≤ nextGen t.g (changedCount t.entries
      (postState p (t.g + 1) (t.drafts.get p) t.entries) (t.drafts.get p)) :=
    fun a ha => BitVec.le_trans (h.anchors a ha) (le_nextGen hg _)
  unfold released
  split
  next => exact GenLaw.vacate hstamps hanchors
  next hno =>
    refine ⟨hstamps, hanchors, fun i r rg hi => ?_⟩
    rw [releasedTable_content] at hi
    exact h.held i r rg (retired_of_post hnodup (Bool.eq_false_iff.2 hno) hi)

/-! ### Every move keeps the law -/

theorem genLaw_loaded (im : List RetainedRecord) : GenLaw (im.foldl loadRecord resetTable) := by
  obtain ⟨-, hanchors, hsave, hg⟩ := loadRecords_frame im resetTable
  refine ⟨fun i => ?_, fun a ha => ?_, fun i r rg hi => ?_⟩
  · rw [hg]
    rcases loadRecords_get im resetTable i with h | ⟨r, -, -, h⟩ <;> rw [h]
    · rw [resetTable_get]; trivial
    · exact ⟨BitVec.le_refl _, BitVec.le_refl _, nofun⟩
  · rw [heldAnchors, hanchors, hsave] at ha
    cases ha
  · rcases loadRecords_get im resetTable i with h | ⟨r', -, -, h⟩ <;> rw [h] at hi
    · rw [resetTable_get] at hi; cases hi
    · cases hi

theorem anchors_set_get (t : TableController) (p : Port) (a : Option Gen)
    (ha : a = none ∨ a = some t.g) (q : Port) :
    (t.anchors.set p a).get q = t.anchors.get q ∨ (t.anchors.set p a).get q = none ∨
      (t.anchors.set p a).get q = some t.g := by
  rw [PerPort.get_set]
  split
  · exact .inr ha
  · exact .inl rfl

theorem genLaw_coreMove {t t' : TableController} (hm : CoreMove t t')
    (hclaims : ClaimsAgree t.entries t.drafts) (h : GenLaw t) : GenLaw t' := by
  cases hm with
  | subscribe e hsub => exact h.resubscribe hsub
  | wait p q i hi hne =>
    refine h.of_content rfl rfl fun j => ?_
    rw [get_set_entries]
    split
    next hj => rw [hj]
    next => rfl
  | create p i c hclaim hspace hstate =>
    refine h.of_content rfl rfl fun j => ?_
    rw [get_set_entries]
    split
    next hj => rw [hj]
    next => rfl
  | merge p i c it hitem hkind => exact h.of_content rfl rfl fun _ => rfl
  | takeOut p i => exact h.of_content rfl rfl fun j => dropClaims_content _ _ j
  | empty p => exact h.of_content rfl rfl fun j => dropClaims_content _ _ j
  | sessionEnd p =>
    have hempty : GenLaw (emptied p t) := h.of_content rfl rfl fun j => dropClaims_content _ _ j
    have hforgot : GenLaw (forgotten p (emptied p t)) := by
      refine (hempty.resubscribe (e := mapEntries (Entry.mapSubscribers fun ps => PortSet.drop ps p) _)
        fun i => ⟨_, mapEntries_get _ _ i⟩).of_content rfl rfl fun j => ?_
      simp only [forgotten, mapEntries_get]
    exact hforgot.revacate (anchors_set_get t p none (.inl rfl)) (.inl rfl)
  | anchor p => exact h.revacate (anchors_set_get t p _ (.inr rfl)) (.inl rfl)
  | unanchor p => exact h.revacate (anchors_set_get t p none (.inl rfl)) (.inl rfl)
  | release p hg hpass => exact genLaw_released (hclaims.nodup p) hg h

/-- Every move keeps the generations in order; the save anchor must be free where it is set. -/
theorem genLaw_move {im : List RetainedRecord} {t t' : TableController} (hm : TableMove im t t')
    (hsave : t.saveAnchor = none ∨ t'.saveAnchor = none ∨ t'.saveAnchor = t.saveAnchor)
    (hclaims : ClaimsAgree t.entries t.drafts) (h : GenLaw t) : GenLaw t' := by
  cases hm with
  | core _ hm => exact genLaw_coreMove hm hclaims h
  | saveAnchor =>
    rcases hsave with hnone | hnone | hsame
    · exact h.setSaveAnchor hnone
    · cases hnone
    · have ht : ({ t with saveAnchor := some t.g } : TableController) = t := by
        have hs : some t.g = t.saveAnchor := hsame
        rw [hs]
      rw [ht]
      exact h
  | unsaveAnchor => exact h.revacate (fun p => .inl rfl) (.inr rfl)
  | wipe => exact genLaw_loaded []
  | load => exact genLaw_loaded im

/-! ### The save anchor within its save (R177) -/

theorem coreMove_saveAnchor {t t' : TableController} (hm : CoreMove t t') :
    t'.saveAnchor = t.saveAnchor := by
  cases hm with
  | release p hg hpass =>
    unfold released
    split <;> rfl
  | _ => rfl

theorem TableWork.saveAnchor {s t : State} (h : TableWork s t) :
    t.table.saveAnchor = s.table.saveAnchor := by
  rcases h.table with heq | hm
  · rw [heq]
  · exact coreMove_saveAnchor hm

/-- A core command leaves no save start, save end or wipe for its completion. -/
theorem runTableCmd_finish {c : TableCmd} (p : Port) (s : State) (hs : c ≠ .saveStart)
    (hw : c ≠ .tableWipe) (hr : c ≠ .tableReload) :
    (runTableCmd p c s).2.2 = .plain ∨ ∃ q re, (runTableCmd p c s).2.2 = .session q re := by
  cases c with
  | sessionEnd re => exact .inr ⟨p, re, rfl⟩
  | saveStart => exact absurd rfl hs
  | tableWipe => exact absurd rfl hw
  | tableReload => exact absurd rfl hr
  | _ => exact .inl rfl

/-- The law of the save anchor, with what it reads given. -/
def SaveAnchorWithin (a : Option Gen) (st : SaveState) (f : Option Finish) : Prop :=
  (a.isSome = true → st ≠ .idle ∨ ∃ p g, f = some (.saveStart p g)) ∧
    ∀ x, f = some x → x = .saveEnd ∨ x = .wipe true → a = none

theorem saveAnchorLaw_iff (s : State) : saveAnchorLaw s ↔ SaveAnchorWithin s.table.saveAnchor
    s.save.record.state (s.arbiter.op.map TableOperation.finish) := .rfl

theorem SaveAnchorWithin.of_none (st : SaveState) (f : Option Finish) :
    SaveAnchorWithin none st f :=
  ⟨nofun, fun _ _ _ => rfl⟩

/-- The start of an operation that neither starts nor ends a save. -/
theorem SaveAnchorWithin.grant {a : Option Gen} {st : SaveState} {f : Finish}
    (h : SaveAnchorWithin a st none) (hend : f ≠ .saveEnd) (hwipe : f ≠ .wipe true) :
    SaveAnchorWithin a st (some f) := by
  refine ⟨fun ha => .inl ?_, fun x hx hor => ?_⟩
  · rcases h.1 ha with hst | ⟨p, g, hf⟩
    · exact hst
    · cases hf
  · cases hx
    rcases hor with he | he
    · exact absurd he hend
    · exact absurd he hwipe

/-- With no operation in progress and no save in flight, no save anchor is held. -/
theorem SaveAnchorWithin.idle_none {a : Option Gen} (h : SaveAnchorWithin a .idle none) : a = none := by
  cases a with
  | none => rfl
  | some g =>
    rcases h.1 rfl with hne | ⟨p, g', hf⟩
    · exact absurd rfl hne
    · cases hf

theorem opTableReload_saveAnchor (s : State) :
    ((opTableReload s).1 = s ∧ (opTableReload s).2.2 = .plain) ∨
      (opTableReload s).1.table.saveAnchor = none := by
  rcases opTableReload_state s with ⟨-, h, hf⟩ | ⟨-, h, -⟩
  · exact .inl ⟨h, hf⟩
  · refine .inr ?_
    rw [h, loadImage_table]
    exact (loadRecords_frame _ resetTable).2.2.1

/-- The save anchor after the work of a table command: the law as the operation begins, and no anchor
replaced by another. -/
theorem runTableCmd_saveAnchor (p : Port) (c : TableCmd) (s : State)
    (h : SaveAnchorWithin s.table.saveAnchor s.save.record.state none) :
    SaveAnchorWithin (runTableCmd p c s).1.table.saveAnchor
        (runTableCmd p c s).1.save.record.state (some (runTableCmd p c s).2.2) ∧
      (s.table.saveAnchor = none ∨ (runTableCmd p c s).1.table.saveAnchor = none ∨
        (runTableCmd p c s).1.table.saveAnchor = s.table.saveAnchor) := by
  rcases tableCmd_cases c with rfl | rfl | rfl | ⟨hs, hw, hr⟩
  · rcases opSaveStart_state p s with ⟨hst, hf⟩ | ⟨hidle, hst, hf⟩ <;>
      simp only [runTableCmd, hst, hf]
    · exact ⟨h.grant nofun nofun, .inr (.inr trivial)⟩
    · rw [hidle] at h
      refine ⟨⟨fun _ => .inr ⟨p, _, rfl⟩, fun x hx hor => ?_⟩, .inl h.idle_none⟩
      cases hx
      rcases hor with he | he <;> cases he
  · simp only [runTableCmd, opTableWipe_table]
    exact ⟨.of_none _ _, .inr (.inl rfl)⟩
  · rcases opTableReload_saveAnchor s with ⟨hst, hf⟩ | hnone
    · simp only [runTableCmd, hst, hf]
      exact ⟨h.grant nofun nofun, .inr (.inr trivial)⟩
    · simp only [runTableCmd, hnone]
      exact ⟨.of_none _ _, .inr (.inl trivial)⟩
  · have hwork := runTableCmd_work (p := p) s hs hw hr
    rw [hwork.saveAnchor, hwork.frame.save]
    refine ⟨?_, .inr (.inr rfl)⟩
    rcases runTableCmd_finish p s hs hw hr with hf | ⟨q, re, hf⟩ <;> rw [hf] <;>
      exact h.grant nofun nofun

/-- After a completion the save anchor stands where its save does. -/
theorem runFinish_saveAnchor (f : Finish) (s : State)
    (h : SaveAnchorWithin s.table.saveAnchor s.save.record.state (some f)) :
    SaveAnchorWithin s.table.saveAnchor (runFinish f s).save.record.state none := by
  have hnone_or : s.table.saveAnchor = none ∨ (runFinish f s).save.record.state ≠ .idle := by
    cases hsa : s.table.saveAnchor with
    | none => exact .inl rfl
    | some g =>
      refine .inr ?_
      rw [hsa] at h
      have hnoend (hor : f = .saveEnd ∨ f = .wipe true) : False := nomatch h.2 f rfl hor
      have hstate (hns : ∀ p g, f ≠ .saveStart p g) : s.save.record.state ≠ .idle := by
        rcases h.1 rfl with hst | ⟨p, g', hf⟩
        · exact hst
        · exact absurd (Option.some.inj hf) (hns p g')
      cases f with
      | plain => exact hstate nofun
      | session p re => cases re <;> exact hstate nofun
      | wipe ends =>
        cases ends with
        | false => exact hstate nofun
        | true => exact (hnoend (.inr rfl)).elim
      | reload => exact hstate nofun
      | saveStart p g => exact nofun
      | copy v =>
        have hst := hstate nofun
        simp only [runFinish, finishCopy]
        split
        · exact hst
        · cases v with
          | noRecord =>
            simp only [advanceSave]
            split
            · exact hst
            · exact nofun
          | torn => exact hst
          | record r => exact hst
      | saveEnd => exact (hnoend (.inl rfl)).elim
  refine ⟨fun hsome => .inl ?_, nofun⟩
  rcases hnone_or with hnone | hne
  · rw [hnone] at hsome; cases hsome
  · exact hne

/-- The ends of store work move no save to IDLE. -/
theorem storeWork_state (v : Bool) (s : State) (h : s.save.record.state ≠ .idle) :
    (eraseComplete v s).save.record.state ≠ .idle ∧
      (programComplete v s).save.record.state ≠ .idle ∧
      (headerComplete v s).save.record.state ≠ .idle ∧
      (reeraseComplete v s).save.record.state ≠ .idle := by
  have hadvance (t : State) (ht : t.save.record.state ≠ .idle) :
      (advanceSave t).save.record.state ≠ .idle := by
    simp only [advanceSave]
    split
    · exact ht
    · exact nofun
  refine ⟨?erase, ?program, ?header, ?reerase⟩
  case erase =>
    simp only [eraseComplete]
    split
    · split
      · exact nofun
      · exact h
    · exact h
  case program =>
    simp only [programComplete]
    split
    · split
      · exact hadvance _ h
      · exact h
    · exact h
  case header =>
    simp only [headerComplete]
    split
    · split
      · split
        · exact h
        · exact h
      · exact h
    · exact h
  case reerase =>
    simp only [reeraseComplete]
    split
    · split
      · split
        · exact h
        · exact h
      · exact h
    · exact h

theorem SaveAnchorWithin.mono {a : Option Gen} {st st' : SaveState} {f : Option Finish}
    (h : SaveAnchorWithin a st f) (hst : st ≠ .idle → st' ≠ .idle) : SaveAnchorWithin a st' f :=
  ⟨fun ha => (h.1 ha).imp_left hst, h.2⟩

theorem SaveStoreOnly.arbiter {s t : State} (h : SaveStoreOnly s t) : t.arbiter = s.arbiter := by
  rw [h]; rfl

theorem saveAnchorLaw_storeOnly {s t : State} (h : SaveStoreOnly s t) (hs : saveAnchorLaw s)
    (hst : s.save.record.state ≠ .idle → t.save.record.state ≠ .idle) : saveAnchorLaw t := by
  rw [saveAnchorLaw_iff, h.table, h.arbiter]
  exact ((saveAnchorLaw_iff s).1 hs).mono hst

/-- A grant finds no operation in progress. -/
theorem SaveAnchorWithin.of_nextGrant {s : State} {r : Requester} (h : saveAnchorLaw s)
    (hg : nextGrant s = some r) :
    SaveAnchorWithin s.table.saveAnchor s.save.record.state none := by
  have := (saveAnchorLaw_iff s).1 h
  rwa [op_none_of_nextGrant hg] at this

theorem effect_saveAnchor {s t : State} (h : Effect s t) (hs : saveAnchorLaw s) :
    saveAnchorLaw t ∧ (s.table.saveAnchor = none ∨ t.table.saveAnchor = none ∨
      t.table.saveAnchor = s.table.saveAnchor) := by
  cases h with
  | ports f => exact ⟨hs, .inr (.inr rfl)⟩
  | take p c f g =>
    by_cases hc : c = .saveAbort
    · subst hc
      rcases portSaveAbort_state p (s.withPorts f) with h | ⟨h, -⟩ <;>
        simp only [runPortCmd, h] <;> exact ⟨hs, .inr (.inr rfl)⟩
    · obtain ⟨u, d, a, n, h, -⟩ := runPortCmd_state p c (s.withPorts f) hc
      rw [h]
      exact ⟨hs, .inr (.inr rfl)⟩
  | timer tm => exact ⟨hs, .inr (.inr rfl)⟩
  | grantPort p hgrant =>
    have hin := SaveAnchorWithin.of_nextGrant hs hgrant
    cases hu : (s.port p).unit with
    | none =>
      rw [grantPort_none hu]
      exact ⟨hin.grant (f := .plain) nofun nofun, .inr (.inr rfl)⟩
    | some f =>
      rw [grantPort_some hu]
      exact runTableCmd_saveAnchor p f.cmd (requestDropped p s) hin
  | grantExpiry e n hgrant =>
    have hwork := runExpiry_work e (expiryDropped e n s)
    have hin : SaveAnchorWithin (expiryDropped e n s).table.saveAnchor
      (expiryDropped e n s).save.record.state none :=
      SaveAnchorWithin.of_nextGrant (s := s) hs hgrant
    rw [← hwork.saveAnchor, ← hwork.frame.save] at hin
    exact ⟨hin.grant (f := .plain) nofun nofun, .inr (.inr hwork.saveAnchor)⟩
  | grantSave r hgrant _ =>
    have hin := SaveAnchorWithin.of_nextGrant hs hgrant
    cases r with
    | copy => exact ⟨hin.grant (f := .copy _) nofun nofun, .inr (.inr rfl)⟩
    | finish =>
      have hnone : (opSaveEnd (s.withSave { s.save with request := none })).table.saveAnchor =
          none := by
        rcases opSaveEnd_state (s.withSave { s.save with request := none }) with ⟨hn, he⟩ | he <;>
          rw [he]
        · exact hn
        · rfl
      rw [saveAnchorLaw_iff, grantSave_finish]
      refine ⟨?_, .inr (.inl hnone)⟩
      show SaveAnchorWithin (opSaveEnd _).table.saveAnchor _ _
      rw [hnone]
      exact .of_none _ _
  | complete =>
    cases ho : s.arbiter.op with
    | none => rw [completeOperation_none ho]; exact ⟨hs, .inr (.inr rfl)⟩
    | some op =>
      obtain ⟨f, hf⟩ := completeOperation_some ho
      have hin := (saveAnchorLaw_iff s).1 hs
      rw [ho] at hin
      rw [hf, saveAnchorLaw_iff]
      have htable := (runFinish_frame op.finish s).table
      refine ⟨?_, .inr (.inr (congrArg TableController.saveAnchor htable))⟩
      show SaveAnchorWithin (runFinish op.finish s).table.saveAnchor
        (runFinish op.finish s).save.record.state none
      rw [htable]
      exact runFinish_saveAnchor op.finish s hin
  | erase v =>
    have ho := eraseComplete_only v s
    exact ⟨saveAnchorLaw_storeOnly ho hs fun h => (storeWork_state v s h).1,
      .inr (.inr (congrArg TableController.saveAnchor ho.table))⟩
  | program v =>
    have ho := programComplete_only v s
    exact ⟨saveAnchorLaw_storeOnly ho hs fun h => (storeWork_state v s h).2.1,
      .inr (.inr (congrArg TableController.saveAnchor ho.table))⟩
  | header v =>
    have ho := headerComplete_only v s
    exact ⟨saveAnchorLaw_storeOnly ho hs fun h => (storeWork_state v s h).2.2.1,
      .inr (.inr (congrArg TableController.saveAnchor ho.table))⟩
  | reerase v =>
    have ho := reeraseComplete_only v s
    exact ⟨saveAnchorLaw_storeOnly ho hs fun h => (storeWork_state v s h).2.2.2,
      .inr (.inr (congrArg TableController.saveAnchor ho.table))⟩
  | resetFalls =>
    cases hr : s.nreset with
    | false => rw [resetFalls_of_low hr]; exact ⟨hs, .inr (.inr rfl)⟩
    | true =>
      rw [resetFalls_of_high hr]
      exact ⟨SaveAnchorWithin.of_none _ _, .inr (.inl rfl)⟩
  | resetRises => exact ⟨SaveAnchorWithin.of_none _ _, .inr (.inl rfl)⟩
  | startupLoad _ =>
    have hkeep : (startupLoad s).table.saveAnchor = s.table.saveAnchor :=
      (loadRecords_frame (storedImage s.store) s.table).2.2.1
    rw [saveAnchorLaw_iff, hkeep]
    exact ⟨hs, .inr (.inr rfl)⟩

/-- Settles O55: every move keeps the stamps, and the law of the save anchor says that a save sets it only
where none is held. -/
theorem generationsKept : Obligations.GenerationsKept := by
  intro s t hstart hclaims hsave hgen h
  obtain ⟨q, he⟩ := effect_of_step h
  obtain ⟨hlaw, hanchor⟩ := effect_saveAnchor he hsave
  refine ⟨hlaw, (generationLaw_iff t).2 ?_⟩
  rcases effect_move he hstart with heq | hm
  · rw [heq]
    exact (generationLaw_iff s).1 hgen
  · exact genLaw_move hm hanchor ((claimLaw_iff s).1 hclaims) ((generationLaw_iff s).1 hgen)

/-! ### G itself (R13) -/

/-- A move leaves G, advances it by one below the last generation, or returns it to 0. -/
theorem move_g {im : List RetainedRecord} {t t' : TableController} (hm : TableMove im t t') :
    t'.g = t.g ∨ (t.g ≠ Config.lastGen ∧ t'.g = t.g + 1) ∨ t'.g = 0 := by
  cases hm with
  | core _ hm =>
    cases hm with
    | release p hg hpass =>
      have hreleased : (released p t).g = nextGen t.g (changedCount t.entries
          (postState p (t.g + 1) (t.drafts.get p) t.entries) (t.drafts.get p)) := by
        unfold released
        split <;> rfl
      rw [hreleased, nextGen]
      split
      · exact .inl rfl
      · exact .inr (.inl ⟨hg, rfl⟩)
    | _ => exact .inl rfl
  | saveAnchor => exact .inl rfl
  | unsaveAnchor => exact .inl rfl
  | wipe => exact .inr (.inr rfl)
  | load => exact .inr (.inr (loadRecords_frame im resetTable).2.2.2)

/-- Settles O59: a step makes one move at most, and a load leaves G. -/
theorem generationCounts : Obligations.GenerationCounts := by
  intro s t h
  obtain ⟨q, he⟩ := effect_of_step h
  rcases effect_table he with heq | hm | ⟨-, heq⟩
  · exact .inl (congrArg TableController.g heq)
  · exact move_g hm
  · rw [heq]
    exact .inl (loadRecords_frame _ _).2.2.2

end Sys2Proof.Proofs

/-! PROOF. Ranges (R3): every value within its bounds, in the table, in the banks and in a record on its
way to a bank. A release passes its check (a), a record is formed of a value within its bounds, and a
load takes what the banks hold. -/

namespace Sys2Proof.Proofs
open Sys2Proof.Machine

/-! ### The checks of a release (R93) -/

theorem findSome?_zipIdx_eq_none {α β : Type} (f : α → Option β) (xs : List α) (k : Nat) :
    ((xs.zipIdx k).findSome? fun q => (f q.1).map fun b => (q.2, q.1, b)) = none ↔
      ∀ x ∈ xs, f x = none := by
  rw [List.findSome?_eq_none_iff]
  constructor
  · intro h x hx
    obtain ⟨i, hi, rfl⟩ := List.mem_iff_getElem.1 hx
    have := h (xs[i], k + i) (List.mem_iff_getElem.2 ⟨i, by simpa using hi, by simp⟩)
    simpa using this
  · intro h q hq
    have hmem : q.1 ∈ xs := List.fst_mem_of_mem_zipIdx hq
    simp [h q.1 hmem]

/-- A release is accepted exactly when every item passes its checks. -/
theorem firstFailure_eq_none (deps : Vector IndexSet 256) (post : Entries) (items : List Item) :
    firstFailure deps post items = none ↔ ∀ it ∈ items, checkItem deps post it = none :=
  findSome?_zipIdx_eq_none (checkItem deps post) items 1

/-- An item that passes has passed every one of the five checks. -/
theorem checkItem_eq_none {deps : Vector IndexSet 256} {post : Entries} {it : Item}
    (h : checkItem deps post it = none) :
    checkRange post it = none ∧ checkTag post it = none ∧ checkPartner post it = none ∧
      checkOwnCoupling post it = none ∧ checkDependents deps post it = none := by
  simpa only [checkItem, Option.or_eq_none_iff] using h

theorem within_of_checkRange {post : Entries} {it : Item} {r : Rec}
    (h : checkRange post it = none) (hne : it.change ≠ .retire)
    (hlive : (post.get it.index).content = .live r) :
    within r.kind r.low r.high r.value = true := by
  have hl : (post.get it.index).live? = some r := by simp only [Entry.live?, hlive]
  unfold checkRange at h
  rw [hl] at h
  split at h
  next hc => exact absurd hc hne
  next r' hr' _ =>
    cases hr'
    by_contra hw
    rw [if_neg hw] at h
    cases h
  next hr' _ => cases hr'

/-! ### The law on the table -/

/-- R3 for the content of an entry. -/
def contentRangeLaw (c : Content) : Prop :=
  match c with
  | .vacant => True
  | .live r | .retired r _ => within r.kind r.low r.high r.value = true

theorem entryRangeLaw_iff (e : Entry) : entryRangeLaw e ↔ contentRangeLaw e.content := by
  unfold entryRangeLaw contentRangeLaw Entry.rec?
  cases e.content <;> simp

/-- R3 on the table alone. -/
def RangeLaw (e : Entries) : Prop := ∀ i, contentRangeLaw (e.get i).content

namespace RangeLaw

variable {e : Entries}

theorem vacate (h : RangeLaw e) (as : List Gen) : RangeLaw (mapEntries (vacateEntry as) e) := by
  intro i
  rw [mapEntries_get]
  rcases vacateEntry_cases as (e.get i) with ⟨r, g, -, -, hv⟩ | ⟨-, hk⟩
  · rw [hv]; trivial
  · rw [hk]; exact h i

theorem of_content {e' : Entries} (h : RangeLaw e)
    (hc : ∀ i, (e'.get i).content = (e.get i).content) : RangeLaw e' := by
  intro i
  rw [hc]
  exact h i

theorem resubscribe {e' : Entries} (h : RangeLaw e)
    (hsub : ∀ i, ∃ f, e'.get i = (e.get i).mapSubscribers f) : RangeLaw e' := by
  intro i
  obtain ⟨f, hf⟩ := hsub i
  have hi := h i
  rw [hf]
  revert hi
  obtain ⟨c, cl, w⟩ := e.get i
  cases c <;> exact id

/-- The post-state of items that pass check (a). -/
theorem post {p : Port} {g : Gen} {items : List Item} (h : RangeLaw e)
    (hnodup : (items.map Item.index).Nodup)
    (hpass : ∀ it ∈ items, checkRange (postState p g items e) it = none) :
    RangeLaw (postState p g items e) := by
  intro i
  rcases postState_cases (p := p) (g := g) hnodup e i with ⟨-, he⟩ | ⟨it, hit, rfl, he⟩
  · rw [he]; exact h i
  · have hold := h it.index
    rcases postContent_cases p g (e.get it.index).content it.change with
      ⟨r, lo, hi, v, -, hne, hp⟩ | ⟨r, hc, -, hp⟩ | ⟨d, -, hd, hp⟩ | hp
    · have hpost : ((postState p g items e).get it.index).content =
        .live (stampChange r lo hi v g) := by rw [he]; exact hp
      rw [hpost]
      exact within_of_checkRange (hpass it hit) hne hpost
    · have hpost : ((postState p g items e).get it.index).content =
        .retired (stampRetire r g) g := by rw [he]; exact hp
      rw [hc] at hold
      rw [hpost]
      exact hold
    · have hpost : ((postState p g items e).get it.index).content = .live (definedRec p d g) := by
        rw [he]; exact hp
      rw [hpost]
      exact within_of_checkRange (hpass it hit) (by rw [hd]; exact nofun) hpost
    · have hpost : ((postState p g items e).get it.index).content = (e.get it.index).content := by
        rw [he]; exact hp
      rw [hpost]
      exact hold

end RangeLaw

theorem set_content {e : Entries} {i : Index} {x : Entry} (hx : x.content = (e.get i).content)
    (j : Index) : ((e.set i.val x i.isLt).get j).content = (e.get j).content := by
  rw [get_set_entries]
  split
  next hj => rw [hj, hx]
  next => rfl

theorem forgotten_get (p : Port) (t : TableController) (i : Index) :
    (forgotten p t).entries.get i =
      { (t.entries.get i).mapSubscribers fun ps => PortSet.drop ps p with
        waiters := PortSet.drop
          ((t.entries.get i).mapSubscribers fun ps => PortSet.drop ps p).waiters p } := by
  simp only [forgotten, mapEntries_get]

theorem rangeLaw_forgotten {p : Port} {t : TableController} (h : RangeLaw t.entries) :
    RangeLaw (forgotten p t).entries := by
  have hsub : RangeLaw (mapEntries (Entry.mapSubscribers fun ps => PortSet.drop ps p) t.entries) :=
    h.resubscribe fun i => ⟨_, mapEntries_get _ _ i⟩
  refine hsub.of_content fun i => ?_
  rw [forgotten_get, mapEntries_get]

theorem rangeLaw_coreMove {t t' : TableController} (hm : CoreMove t t')
    (hclaims : ClaimsAgree t.entries t.drafts) (h : RangeLaw t.entries) : RangeLaw t'.entries := by
  cases hm with
  | subscribe e hsub => exact h.resubscribe hsub
  | wait p q i hi hne => exact h.of_content (set_content rfl)
  | create p i c hclaim hspace hstate => exact h.of_content (set_content rfl)
  | merge p i c it hitem hkind => exact h
  | takeOut p i => exact h.of_content (dropClaims_content _ _)
  | empty p => exact h.of_content (dropClaims_content _ _)
  | sessionEnd p =>
    have hempty : RangeLaw (emptied p t).entries := h.of_content (dropClaims_content _ _)
    exact (rangeLaw_forgotten (t := { emptied p t with anchors := t.anchors.set p none })
      hempty).vacate _
  | anchor p => exact h.vacate _
  | unanchor p => exact h.vacate _
  | release p hg hpass =>
    have hpost := h.post (hclaims.nodup p) fun it hit =>
      (checkItem_eq_none ((firstFailure_eq_none _ _ _).1 hpass it hit)).1
    have hdrop := hpost.of_content (dropClaims_content (t.drafts.get p) _)
    rcases released_entries p t with he | he <;> rw [he]
    · exact hdrop
    · exact hdrop.vacate _

theorem rangeLaw_loaded {im : List RetainedRecord} (h : ∀ r ∈ im, recordRangeLaw r) :
    RangeLaw (im.foldl loadRecord resetTable).entries := by
  intro i
  rcases loadRecords_get im resetTable i with he | ⟨r, hr, -, he⟩ <;> rw [he]
  · rw [resetTable_get]; trivial
  · exact h r hr

theorem rangeLaw_move {im : List RetainedRecord} {t t' : TableController} (hm : TableMove im t t')
    (him : ∀ r ∈ im, recordRangeLaw r) (hclaims : ClaimsAgree t.entries t.drafts)
    (h : RangeLaw t.entries) : RangeLaw t'.entries := by
  cases hm with
  | core _ hm => exact rangeLaw_coreMove hm hclaims h
  | saveAnchor => exact h
  | unsaveAnchor => exact h.vacate _
  | wipe => exact rangeLaw_loaded (im := []) fun _ h => nomatch h
  | load => exact rangeLaw_loaded him

/-! ### The Save Engine under a table command -/

/-- What a table command's work does to the Save Engine, with what it leaves for the completion. -/
theorem runTableCmd_save (p : Port) (c : TableCmd) (s : State) :
    ((runTableCmd p c s).1.save = s.save ∧
        ((runTableCmd p c s).2.2 = .plain ∨ ∃ q re, (runTableCmd p c s).2.2 = .session q re)) ∨
      ((runTableCmd p c s).1.save = s.save ∧ s.save.record.state = .idle ∧
        (runTableCmd p c s).2.2 = .saveStart p s.table.g) ∨
      ((runTableCmd p c s).2.2 = .wipe (savePhaseEnds s) ∧
        (runTableCmd p c s).1.save = if savePhaseEnds s
          then { s.save with work := .none, request := none } else s.save) ∨
      (s.save.record.state = .idle ∧ (runTableCmd p c s).2.2 = .reload ∧
        (runTableCmd p c s).1.save =
          { s.save with device := .loading, active := selectBank s.store }) := by
  rcases tableCmd_cases c with rfl | rfl | rfl | ⟨hs, hw, hr⟩
  · rcases opSaveStart_state p s with ⟨h, hf⟩ | ⟨hidle, h, hf⟩
    · exact .inl ⟨congrArg State.save h, .inl hf⟩
    · exact .inr (.inl ⟨(congrArg State.save h).trans rfl, hidle, hf⟩)
  · refine .inr (.inr (.inl ?_))
    simp only [runTableCmd, opTableWipe]
    split
    next he => exact ⟨trivial, rfl⟩
    next he => exact ⟨trivial, rfl⟩
  · rcases opTableReload_state s with ⟨-, h, hf⟩ | ⟨hidle, h, hf⟩
    · exact .inl ⟨congrArg State.save h, .inl hf⟩
    · exact .inr (.inr (.inr ⟨hidle, hf, (congrArg State.save h).trans rfl⟩))
  · exact .inl ⟨(runTableCmd_work s hs hw hr).frame.save, runTableCmd_finish p s hs hw hr⟩

/-! ### Banks and records on their way -/

theorem RetainedStore.get_set (st : RetainedStore) (n m : BankName) (b : Bank) :
    (st.set n b).get m = if m = n then b else st.get m := by
  cases n <;> cases m <;> rfl

/-- R3 outside the table: the banks, the record being programmed, the outcome of a visit. -/
structure CopyRangeLaw (st : RetainedStore) (w : StoreWork) (f : Option Finish) : Prop where
  banks : ∀ n, ∀ r ∈ (st.get n).records, recordRangeLaw r
  work : ∀ r, w = .program r → recordRangeLaw r
  visit : ∀ r, f = some (.copy (.record r)) → recordRangeLaw r

theorem rangeLaw_iff (s : State) : rangeLaw s ↔ RangeLaw s.table.entries ∧
    CopyRangeLaw s.store s.save.work (s.arbiter.op.map TableOperation.finish) := by
  constructor
  · rintro ⟨hentries, hbanks, hwork, hvisit⟩
    exact ⟨fun i => (entryRangeLaw_iff _).1 (hentries i), hbanks, hwork, hvisit⟩
  · rintro ⟨hentries, h⟩
    exact ⟨fun i => (entryRangeLaw_iff _).2 (hentries i), h.banks, h.work, h.visit⟩

namespace CopyRangeLaw

variable {st : RetainedStore} {w : StoreWork} {f : Option Finish}

theorem grant {fin : Finish} (h : CopyRangeLaw st w f)
    (hfin : ∀ r, fin ≠ .copy (.record r)) : CopyRangeLaw st w (some fin) :=
  ⟨h.banks, h.work, fun r hr => absurd (Option.some.inj hr) (hfin r)⟩

theorem ended (h : CopyRangeLaw st w f) : CopyRangeLaw st w none := ⟨h.banks, h.work, fun _ h => nomatch h⟩

theorem rework {w' : StoreWork} (h : CopyRangeLaw st w f)
    (hw : w' = w ∨ ∀ r, w' ≠ .program r) : CopyRangeLaw st w' f := by
  refine ⟨h.banks, fun r hr => ?_, h.visit⟩
  rcases hw with rfl | hne
  · exact h.work r hr
  · exact absurd hr (hne r)

/-- A bank whose records all obey R3 replaces another. -/
theorem setBank {n : BankName} {b : Bank} (h : CopyRangeLaw st w f)
    (hb : ∀ r ∈ b.records, recordRangeLaw r) : CopyRangeLaw (st.set n b) w f := by
  refine ⟨fun m r hr => ?_, h.work, h.visit⟩
  rw [RetainedStore.get_set] at hr
  split at hr
  · exact hb r hr
  · exact h.banks m r hr

/-- A bank is written over but for its records. -/
theorem relabel {n : BankName} {b : Bank} {w' : StoreWork} (h : CopyRangeLaw st w f)
    (hb : b.records = (st.get n).records) (hw : ∀ r, w' ≠ .program r) :
    CopyRangeLaw (st.set n b) w' f :=
  (h.setBank fun r hr => h.banks n r (hb ▸ hr)).rework (.inr hw)

end CopyRangeLaw

theorem storedImage_mem {st : RetainedStore} {r : RetainedRecord} (h : r ∈ storedImage st) :
    ∃ n, r ∈ (st.get n).records := by
  unfold storedImage at h
  split at h
  next n _ => exact ⟨n, List.mem_of_mem_take h⟩
  next => cases h

/-- A visit forms a record only of a value within the current bounds (R180). -/
theorem visitEntry_record {i : Index} {c : Content} {gs : Gen} {r : RetainedRecord}
    (h : visitEntry i c gs = .record r) : recordRangeLaw r := by
  unfold visitEntry at h
  split at h
  next => cases h
  all_goals
    split at h
    next => cases h
    next =>
      split at h
      next => cases h
      next => cases h
      next => cases h
      next =>
        split at h
        next hw => cases h; exact hw
        next => cases h

theorem advanceSave_work (s : State) :
    (advanceSave s).save.work = .none ∨ (advanceSave s).save.work = .header := by
  simp only [advanceSave]
  split
  · exact .inl rfl
  · exact .inr rfl

theorem advanceSave_store (s : State) : (advanceSave s).store = s.store := by
  simp only [advanceSave]
  split <;> rfl

theorem advanceSave_notProgram (s : State) (r : RetainedRecord) :
    (advanceSave s).save.work ≠ .program r := by
  rcases advanceSave_work s with h | h <;> rw [h] <;> exact nofun

theorem runFinish_ranges (f : Finish) (s : State)
    (h : CopyRangeLaw s.store s.save.work (some f)) :
    CopyRangeLaw (runFinish f s).store (runFinish f s).save.work none := by
  cases f with
  | plain => exact h.ended
  | session p re => cases re <;> exact h.ended
  | wipe ends =>
    cases ends with
    | false => exact h.ended
    | true => exact h.ended.rework (.inr fun _ h => nomatch h)
  | reload => exact h.ended
  | saveStart p g => exact h.ended.relabel (by rfl) fun _ h => nomatch h
  | copy v =>
    simp only [runFinish, finishCopy]
    split
    · exact h.ended
    · cases v with
      | noRecord =>
        simp only
        rw [advanceSave_store]
        exact h.ended.rework (.inr (advanceSave_notProgram s))
      | torn => exact h.ended.rework (.inr fun _ h => nomatch h)
      | record r =>
        refine ⟨h.banks, fun r' hr => ?_, fun _ h => nomatch h⟩
        cases hr
        exact h.visit r rfl
  | saveEnd => exact h.ended

theorem eraseComplete_ranges {v : Bool} {s : State} {f : Option Finish}
    (h : CopyRangeLaw s.store s.save.work f) :
    CopyRangeLaw (eraseComplete v s).store (eraseComplete v s).save.work f := by
  simp only [eraseComplete]
  split
  · split
    · split
      · exact (h.setBank (b := blankBank) fun _ h => nomatch h).rework (.inr fun _ h => nomatch h)
      · exact h.rework (.inr fun _ h => nomatch h)
    · exact h.rework (.inr fun _ h => nomatch h)
  · exact h

theorem programComplete_ranges {v : Bool} {s : State} {f : Option Finish}
    (h : CopyRangeLaw s.store s.save.work f) :
    CopyRangeLaw (programComplete v s).store (programComplete v s).save.work f := by
  simp only [programComplete]
  split
  next r hr =>
    split
    · have hset (n : BankName) : CopyRangeLaw
          (s.store.set n (programRecord r s.save.record.copied (s.store.get n))) .none f := by
        refine (h.setBank fun x hx => ?_).rework (.inr fun _ h => nomatch h)
        rcases List.mem_append.1 hx with hx | hx
        · exact h.banks n x (List.mem_of_mem_take hx)
        · rw [List.mem_singleton] at hx
          exact hx ▸ h.work r hr
      rw [advanceSave_store]
      split
      · exact (hset _).rework (.inr (advanceSave_notProgram _))
      · exact h.rework (.inr (advanceSave_notProgram _))
    · exact h.rework (.inr fun _ h => nomatch h)
  next => exact h

theorem headerComplete_ranges {v : Bool} {s : State} {f : Option Finish}
    (h : CopyRangeLaw s.store s.save.work f) :
    CopyRangeLaw (headerComplete v s).store (headerComplete v s).save.work f := by
  simp only [headerComplete]
  split
  · split
    next n _ =>
      split
      · exact h.relabel (n := n) (by rfl) fun _ h => nomatch h
      · exact h.relabel (n := n) (by rfl) fun _ h => nomatch h
    · exact h
  · exact h

theorem reeraseComplete_ranges {v : Bool} {s : State} {f : Option Finish}
    (h : CopyRangeLaw s.store s.save.work f) :
    CopyRangeLaw (reeraseComplete v s).store (reeraseComplete v s).save.work f := by
  simp only [reeraseComplete]
  split
  · split
    · split
      · exact (h.setBank (b := blankBank) fun _ h => nomatch h).rework (.inr fun _ h => nomatch h)
      · exact h.rework (.inr fun _ h => nomatch h)
    · exact h.rework (.inr fun _ h => nomatch h)
  · exact h

theorem runTableCmd_ranges (p : Port) (c : TableCmd) (s : State)
    (h : CopyRangeLaw s.store s.save.work none) :
    CopyRangeLaw (runTableCmd p c s).1.store (runTableCmd p c s).1.save.work
      (some (runTableCmd p c s).2.2) := by
  rw [(runTableCmd_frame p c s).store]
  rcases runTableCmd_save p c s with
    ⟨hsave, hf | ⟨q, re, hf⟩⟩ | ⟨hsave, -, hf⟩ | ⟨hf, hsave⟩ | ⟨-, hf, hsave⟩ <;> rw [hf, hsave]
  · exact h.grant fun _ h => nomatch h
  · exact h.grant fun _ h => nomatch h
  · exact h.grant fun _ h => nomatch h
  · refine (h.rework ?_).grant fun _ h => nomatch h
    split
    · exact .inr fun _ h => nomatch h
    · exact .inl rfl
  · exact h.grant fun _ h => nomatch h

theorem effect_ranges {s t : State} (h : Effect s t)
    (hs : CopyRangeLaw s.store s.save.work (s.arbiter.op.map TableOperation.finish)) :
    CopyRangeLaw t.store t.save.work (t.arbiter.op.map TableOperation.finish) := by
  cases h with
  | ports f => exact hs
  | take p c f g =>
    by_cases hc : c = .saveAbort
    · subst hc
      rcases portSaveAbort_state p (s.withPorts f) with h | ⟨h, -⟩ <;> simp only [runPortCmd, h]
      · exact hs
      · exact hs.rework (.inr fun _ h => nomatch h)
    · obtain ⟨u, d, a, n, h, -⟩ := runPortCmd_state p c (s.withPorts f) hc
      rw [h]
      exact hs
  | timer tm => exact hs
  | grantPort p _ =>
    cases hu : (s.port p).unit with
    | none =>
      rw [grantPort_none hu]
      exact hs.grant (fin := .plain) fun _ h => nomatch h
    | some f =>
      rw [grantPort_some hu]
      exact runTableCmd_ranges p f.cmd (requestDropped p s) hs.ended
  | grantExpiry e n _ =>
    have hframe := (runExpiry_work e (expiryDropped e n s)).frame
    have hkeep : CopyRangeLaw (runExpiry e (expiryDropped e n s)).store
        (runExpiry e (expiryDropped e n s)).save.work (s.arbiter.op.map TableOperation.finish) := by
      rw [hframe.store, hframe.save]
      exact hs
    exact hkeep.grant (fin := .plain) fun _ h => nomatch h
  | grantSave r _ _ =>
    cases r with
    | copy => exact ⟨hs.banks, hs.work, fun r hr => visitEntry_record
        (by simpa [grantSave, beginOperation, visitNext] using hr)⟩
    | finish =>
      have hframe := opSaveEnd_frame (s.withSave { s.save with request := none })
      have hkeep : CopyRangeLaw (opSaveEnd (s.withSave { s.save with request := none })).store
          (opSaveEnd (s.withSave { s.save with request := none })).save.work
          (s.arbiter.op.map TableOperation.finish) := by
        rw [hframe.store, hframe.save]
        exact hs
      exact hkeep.grant (fin := .saveEnd) fun _ h => nomatch h
  | complete =>
    cases ho : s.arbiter.op with
    | none => rw [completeOperation_none ho]; exact hs
    | some op =>
      obtain ⟨f, hf⟩ := completeOperation_some ho
      rw [hf]
      rw [ho] at hs
      exact runFinish_ranges op.finish s hs
  | erase v => rw [(eraseComplete_only v s).arbiter]; exact eraseComplete_ranges hs
  | program v => rw [(programComplete_only v s).arbiter]; exact programComplete_ranges hs
  | header v => rw [(headerComplete_only v s).arbiter]; exact headerComplete_ranges hs
  | reerase v => rw [(reeraseComplete_only v s).arbiter]; exact reeraseComplete_ranges hs
  | resetFalls =>
    cases hr : s.nreset with
    | false => rw [resetFalls_of_low hr]; exact hs
    | true => rw [resetFalls_of_high hr]; exact ⟨hs.banks, (fun _ h => nomatch h), fun _ h => nomatch h⟩
  | resetRises =>
    refine ⟨fun n r hr => ?_, (fun _ h => nomatch h), fun _ h => nomatch h⟩
    have hstore : (resetRises s).store = s.store := resetFalls_store s
    rw [hstore] at hr
    exact hs.banks n r hr
  | startupLoad _ => exact hs

/-- Settles O56: the moves keep the table's values, and the records on their way come from values within
their bounds. -/
theorem rangesKept : Obligations.RangesKept := by
  intro s t hstart hclaims hlaw h
  obtain ⟨q, he⟩ := effect_of_step h
  obtain ⟨hentries, hcopy⟩ := (rangeLaw_iff s).1 hlaw
  refine (rangeLaw_iff t).2 ⟨?_, effect_ranges he hcopy⟩
  refine tableLaw_step (P := fun t => RangeLaw t.entries) (fun t' hm hr => ?_) hstart hentries h
  refine rangeLaw_move hm (fun r hr => ?_) ((claimLaw_iff s).1 hclaims) hr
  obtain ⟨n, hn⟩ := storedImage_mem hr
  exact hcopy.banks n r hn

end Sys2Proof.Proofs

/-! PROOF. Tags, the tag index, couplings and dependents (R7, R8, R11, R12). The laws see of an entry only
whether it is LIVE and the five fields of its `face`; so every move that leaves the faces leaves the laws,
and a release and a load are followed face by face. -/

namespace Sys2Proof.Proofs
open Sys2Proof.Machine

/-! ### The laws on faces -/

/-- The fields of a LIVE entry that the laws of tags and couplings speak of. -/
structure Face where
  tag : Word
  kind : Kind
  retain : Bool
  value : Word
  coupling : Option Coupling

def faceOf (r : Rec) : Face :=
  { tag := r.tag, kind := r.kind, retain := r.retain, value := r.value, coupling := r.coupling }

/-- The face of the record an item DEFINEs, with the value it is given. -/
def definedFace (d : Definition) (v : Word) : Face :=
  { tag := d.tag, kind := d.kind, retain := d.retain, value := v, coupling := d.coupling }

/-- The faces of a table: those of its LIVE entries. -/
def faces (e : Entries) (i : Index) : Option Face := (e.get i).live?.map faceOf

theorem live?_eq_some {e : Entry} {r : Rec} : e.live? = some r ↔ e.content = .live r := by
  unfold Entry.live?
  cases e.content <;> simp

theorem faces_eq_some {e : Entries} {i : Index} {a : Face} :
    faces e i = some a ↔ ∃ r, (e.get i).content = .live r ∧ faceOf r = a := by
  simp only [faces, Option.map_eq_some_iff, live?_eq_some]

theorem faces_of_live {e : Entries} {i : Index} {r : Rec} (h : (e.get i).content = .live r) :
    faces e i = some (faceOf r) := faces_eq_some.2 ⟨r, h, rfl⟩

theorem faces_eq_none {e : Entries} {i : Index} :
    faces e i = none ↔ ∀ r, (e.get i).content ≠ .live r := by
  unfold faces Entry.live?
  cases (e.get i).content <;> simp

/-- R7, R8, R11 and R12 on the faces of a table, its tag index and its dependents. -/
structure FaceLaw (L : Index → Option Face) (ti : List (Word × Index))
    (deps : Vector IndexSet 256) : Prop where
  tags : ∀ i j a b, L i = some a → L j = some b → a.tag = b.tag → i = j
  index : ∀ tag i, lookupTag tag ti = some i ↔ ∃ a, L i = some a ∧ a.tag = tag
  coupled : ∀ i a c, L i = some a → a.coupling = some c →
    ∃ w, L c.partner = some w ∧ w.kind = a.kind ∧ (a.retain = true → w.retain = true) ∧
      relationHolds c a.kind a.value w.value = true
  dependent : ∀ e d, d ∈ deps.get e ↔ ∃ a c, L d = some a ∧ a.coupling = some c ∧ c.partner = e

theorem tableLaw_iff (t : TableController) :
    tableLaw t ↔ FaceLaw (faces t.entries) t.tagIndex t.dependents := by
  constructor
  · rintro ⟨htag, hindex, hcoupled, hdep⟩
    refine ⟨fun i j a b ha hb hab => ?_, fun tag i => ?_, fun i a c ha hc => ?_, fun e d => ?_⟩
    · obtain ⟨r, hr, rfl⟩ := faces_eq_some.1 ha
      obtain ⟨q, hq, rfl⟩ := faces_eq_some.1 hb
      exact htag i j r q hr hq hab
    · rw [hindex]
      constructor
      · rintro ⟨r, hr, rfl⟩; exact ⟨_, faces_of_live hr, rfl⟩
      · rintro ⟨a, ha, rfl⟩
        obtain ⟨r, hr, rfl⟩ := faces_eq_some.1 ha
        exact ⟨r, hr, rfl⟩
    · obtain ⟨r, hr, rfl⟩ := faces_eq_some.1 ha
      obtain ⟨w, hw, hkind, hretain, hrel⟩ := hcoupled i r c hr hc
      exact ⟨_, faces_of_live hw, hkind, hretain, hrel⟩
    · rw [hdep]
      constructor
      · rintro ⟨r, c, hr, hc, rfl⟩; exact ⟨_, c, faces_of_live hr, hc, rfl⟩
      · rintro ⟨a, c, ha, hc, rfl⟩
        obtain ⟨r, hr, rfl⟩ := faces_eq_some.1 ha
        exact ⟨r, c, hr, hc, rfl⟩
  · rintro ⟨htag, hindex, hcoupled, hdep⟩
    refine ⟨fun i j r q hr hq hab => ?_, fun tag i => ?_, fun i r c hr hc => ?_, fun e d => ?_⟩
    · exact htag i j _ _ (faces_of_live hr) (faces_of_live hq) hab
    · rw [hindex]
      constructor
      · rintro ⟨a, ha, rfl⟩
        obtain ⟨r, hr, rfl⟩ := faces_eq_some.1 ha
        exact ⟨r, hr, rfl⟩
      · rintro ⟨r, hr, rfl⟩; exact ⟨_, faces_of_live hr, rfl⟩
    · obtain ⟨w, hw, hkind, hretain, hrel⟩ := hcoupled i _ c (faces_of_live hr) hc
      obtain ⟨q, hq, rfl⟩ := faces_eq_some.1 hw
      exact ⟨q, hq, hkind, hretain, hrel⟩
    · rw [hdep]
      constructor
      · rintro ⟨a, c, ha, hc, rfl⟩
        obtain ⟨r, hr, rfl⟩ := faces_eq_some.1 ha
        exact ⟨r, c, hr, hc, rfl⟩
      · rintro ⟨r, c, hr, hc, rfl⟩; exact ⟨_, c, faces_of_live hr, hc, rfl⟩

/-! ### Moves that leave the faces -/

theorem faces_of_content {e e' : Entries} (h : ∀ i, (e'.get i).content = (e.get i).content) :
    faces e' = faces e := by
  funext i
  simp only [faces, Entry.live?, h i]

theorem faces_vacate (as : List Gen) (e : Entries) : faces (mapEntries (vacateEntry as) e) = faces e := by
  funext i
  simp only [faces, mapEntries_get]
  rcases vacateEntry_cases as (e.get i) with ⟨r, g, hc, -, hv⟩ | ⟨-, hk⟩
  · simp only [Entry.live?, hv, hc]
    rfl
  · rw [hk]

theorem faces_mapSubscribers (f : PortSet → PortSet) (e : Entry) :
    (e.mapSubscribers f).live?.map faceOf = e.live?.map faceOf := by
  obtain ⟨c, cl, w⟩ := e
  cases c <;> rfl

theorem faces_resubscribed {t : TableController} {e : Entries} (h : Resubscribed t e) :
    faces e = faces t.entries := by
  funext i
  obtain ⟨f, hf⟩ := h i
  rw [faces, hf, faces_mapSubscribers, faces]

theorem faces_forgotten (p : Port) (t : TableController) :
    faces (forgotten p t).entries = faces t.entries := by
  funext i
  rw [faces, forgotten_get]
  exact faces_mapSubscribers _ (t.entries.get i)

/-! ### The faces after a release -/

/-- What a release makes of the face of each entry (R90, R91): an entry no item names keeps it; a SET or
REBOUND gives it a value, a RETIRE takes it, a DEFINE makes it. -/
structure FacesReleased (L L' : Index → Option Face) (items : List Item) : Prop where
  unnamed : ∀ i, (∀ it ∈ items, it.index ≠ i) → L' i = L i
  define : ∀ it ∈ items, ∀ d, it.change = .define d →
    L it.index = none ∧ ∃ v, L' it.index = some (definedFace d v)
  retire : ∀ it ∈ items, it.change = .retire → (∃ a, L it.index = some a) ∧ L' it.index = none
  changed : ∀ it ∈ items, it.isDefine = false → it.change ≠ .retire →
    ∃ a v, L it.index = some a ∧ L' it.index = some { a with value := v }

theorem faceOf_stampChange (r : Rec) (lo hi v : Word) (g : Gen) :
    ∃ u, faceOf (stampChange r lo hi v g) = { faceOf r with value := u } := by
  unfold stampChange
  split
  · exact ⟨r.value, rfl⟩
  · exact ⟨v, rfl⟩

theorem vacant_of_isVacant {e : Entry} (h : e.isVacant = true) : e.content = .vacant :=
  eq_of_beq h

theorem live_of_isLive {e : Entry} (h : e.isLive = true) : ∃ r, e.content = .live r := by
  obtain ⟨r, hr⟩ := Option.isSome_iff_exists.1 h
  exact ⟨r, live?_eq_some.1 hr⟩

theorem facesReleased {p : Port} {g : Gen} {t : TableController}
    (hclaims : ClaimsAgree t.entries t.drafts) :
    FacesReleased (faces t.entries) (faces (postState p g (t.drafts.get p) t.entries))
      (t.drafts.get p) := by
  have hget {it : Item} (hit : it ∈ t.drafts.get p) :=
    postState_get_of_mem (p := p) (g := g) (hclaims.nodup p) hit t.entries
  have hlive {it : Item} (hit : it ∈ t.drafts.get p) (hd : it.isDefine = false) :
      ∃ r, (t.entries.get it.index).content = .live r := by
    have := hclaims.kind p it hit
    rw [hd] at this
    exact live_of_isLive this
  constructor
  case unnamed =>
    intro i hno
    simp only [faces, postState_get_of_not_mem hno]
  case define =>
    intro it hit d hd
    have hkind := hclaims.kind p it hit
    simp only [Item.isDefine, hd, if_true] at hkind
    have hvacant := vacant_of_isVacant hkind
    refine ⟨faces_eq_none.2 fun r hr => ?_, rangeValue d.policy d.kind d.low d.high d.value, ?_⟩
    · rw [hvacant] at hr; cases hr
    · refine faces_of_live (r := definedRec p d g) ?_
      rw [hget hit]
      simp only [postEntry, hd, hvacant, postContent]
  case retire =>
    intro it hit hr
    obtain ⟨r, hc⟩ := hlive hit (by simp only [Item.isDefine, hr])
    refine ⟨⟨_, faces_of_live hc⟩, faces_eq_none.2 fun q hq => ?_⟩
    rw [hget hit] at hq
    simp only [postEntry, hr, hc, postContent] at hq
    cases hq
  case changed =>
    intro it hit hd hr
    obtain ⟨r, hc⟩ := hlive hit hd
    have hpost : ∃ lo hi v, postContent p g (.live r) it.change = .live (stampChange r lo hi v g) := by
      revert hd hr
      obtain ⟨i, c⟩ := it
      cases c with
      | set v => exact fun _ _ => ⟨_, _, _, rfl⟩
      | rebound lo hi v => exact fun _ _ => ⟨_, _, _, rfl⟩
      | retire => exact fun _ h => absurd rfl h
      | define d => exact fun h => nomatch h
    obtain ⟨lo, hi, v, hpost⟩ := hpost
    obtain ⟨u, hu⟩ := faceOf_stampChange r lo hi v g
    refine ⟨faceOf r, u, faces_of_live hc, ?_⟩
    rw [← hu]
    refine faces_of_live ?_
    rw [hget hit]
    simp only [postEntry, hc, hpost]

namespace FacesReleased

variable {L L' : Index → Option Face} {items : List Item}

/-- An entry keeps tag, kind, retain and coupling through a release that keeps it LIVE. -/
theorem kept (h : FacesReleased L L' items) {i : Index} {a a' : Face} (ha : L i = some a)
    (ha' : L' i = some a') : ∃ v, a' = { a with value := v } := by
  by_cases hex : ∃ it ∈ items, it.index = i
  · obtain ⟨it, hit, rfl⟩ := hex
    cases hc : it.change with
    | define d =>
      rw [(h.define it hit d hc).1] at ha
      cases ha
    | retire =>
      rw [(h.retire it hit hc).2] at ha'
      cases ha'
    | set v | rebound lo hi v =>
      obtain ⟨b, u, hb, hb'⟩ := h.changed it hit (by simp only [Item.isDefine, hc]) (by rw [hc]; exact nofun)
      rw [ha] at hb
      rw [ha'] at hb'
      cases hb
      exact ⟨u, Option.some.inj hb'⟩
  · rw [h.unnamed i fun it hit hi => hex ⟨it, hit, hi⟩, ha] at ha'
    exact ⟨a.value, (Option.some.inj ha').symm⟩

/-- A LIVE entry of the post-state was LIVE before, or an item DEFINEs it. -/
theorem origin (h : FacesReleased L L' items) {i : Index} {a' : Face} (ha' : L' i = some a') :
    (∃ a v, L i = some a ∧ a' = { a with value := v }) ∨
      ∃ it ∈ items, it.index = i ∧ ∃ d v, it.change = .define d ∧ a' = definedFace d v := by
  cases ha : L i with
  | some a =>
    obtain ⟨v, hv⟩ := h.kept ha ha'
    exact .inl ⟨a, v, rfl, hv⟩
  | none =>
    by_cases hex : ∃ it ∈ items, it.index = i
    · obtain ⟨it, hit, rfl⟩ := hex
      cases hc : it.change with
      | define d =>
        obtain ⟨v, hv⟩ := (h.define it hit d hc).2
        rw [ha'] at hv
        exact .inr ⟨it, hit, rfl, d, v, hc, Option.some.inj hv⟩
      | retire =>
        rw [(h.retire it hit hc).2] at ha'
        cases ha'
      | set v | rebound lo hi v =>
        obtain ⟨b, u, hb, -⟩ :=
          h.changed it hit (by simp only [Item.isDefine, hc]) (by rw [hc]; exact nofun)
        rw [ha] at hb
        cases hb
    · rw [h.unnamed i fun it hit hi => hex ⟨it, hit, hi⟩, ha] at ha'
      cases ha'

/-- A LIVE entry that no item RETIREs stays LIVE. -/
theorem survives (h : FacesReleased L L' items) {i : Index} {a : Face} (ha : L i = some a)
    (hret : ∀ it ∈ items, it.change = .retire → it.index ≠ i) : ∃ a', L' i = some a' := by
  by_cases hex : ∃ it ∈ items, it.index = i
  · obtain ⟨it, hit, rfl⟩ := hex
    cases hc : it.change with
    | define d =>
      obtain ⟨v, hv⟩ := (h.define it hit d hc).2
      exact ⟨_, hv⟩
    | retire => exact absurd rfl (hret it hit hc)
    | set v | rebound lo hi v =>
      obtain ⟨b, u, -, hb'⟩ :=
        h.changed it hit (by simp only [Item.isDefine, hc]) (by rw [hc]; exact nofun)
      exact ⟨_, hb'⟩
  · exact ⟨a, (h.unnamed i fun it hit hi => hex ⟨it, hit, hi⟩).trans ha⟩

end FacesReleased

/-! ### The tag index after a release (R104) -/

/-- The pair that a RETIRE removes. -/
def retireTag (old : Entries) (ti : List (Word × Index)) (it : Item) : List (Word × Index) :=
  match it.change, (old.get it.index).live? with
  | .retire, some r => dropTag r.tag ti
  | _, _ => ti

/-- The pair that a DEFINE adds. -/
def defineTag (ti : List (Word × Index)) (it : Item) : List (Word × Index) :=
  match it.change with
  | .define d => addTag d.tag it.index ti
  | _ => ti

theorem releaseTags_eq (old : Entries) (items : List Item) (ti : List (Word × Index)) :
    releaseTags old items ti = items.foldl defineTag (items.foldl (retireTag old) ti) := rfl

/-- The item retires the entry that carries a tag. -/
def RetiresTag (old : Entries) (tag : Word) (it : Item) : Prop :=
  it.change = .retire ∧ ∃ a, faces old it.index = some a ∧ a.tag = tag

theorem lookupTag_retireTag (old : Entries) (ti : List (Word × Index)) (it : Item) (tag : Word) :
    (RetiresTag old tag it ∧ lookupTag tag (retireTag old ti it) = none) ∨
      (¬ RetiresTag old tag it ∧ lookupTag tag (retireTag old ti it) = lookupTag tag ti) := by
  unfold retireTag
  split
  next r hc hr =>
    have hface : faces old it.index = some (faceOf r) := faces_of_live (live?_eq_some.1 hr)
    rw [lookupTag_dropTag]
    split
    next ht => exact .inl ⟨⟨hc, _, hface, ht.symm⟩, rfl⟩
    next ht =>
      refine .inr ⟨?_, rfl⟩
      rintro ⟨-, a, ha, hat⟩
      rw [hface] at ha
      cases ha
      exact ht hat.symm
  next hno =>
    refine .inr ⟨?_, rfl⟩
    rintro ⟨hc, a, ha, -⟩
    obtain ⟨r, hr, -⟩ := faces_eq_some.1 ha
    exact hno r hc (live?_eq_some.2 hr)

/-- After the RETIRE items a tag is looked up as before, unless one of them retires its entry. -/
theorem lookupTag_retired (old : Entries) (items : List Item) (ti : List (Word × Index)) (tag : Word) :
    ((∃ it ∈ items, RetiresTag old tag it) ∧
        lookupTag tag (items.foldl (retireTag old) ti) = none) ∨
      ((∀ it ∈ items, ¬ RetiresTag old tag it) ∧
        lookupTag tag (items.foldl (retireTag old) ti) = lookupTag tag ti) := by
  induction items using List.reverseRecOn with
  | nil => exact .inr ⟨(fun _ h => nomatch h), rfl⟩
  | append_singleton xs x ih =>
    rw [List.foldl_append, List.foldl_cons, List.foldl_nil]
    rcases lookupTag_retireTag old (xs.foldl (retireTag old) ti) x tag with ⟨hx, h⟩ | ⟨hx, h⟩ <;> rw [h]
    · exact .inl ⟨⟨x, by simp, hx⟩, rfl⟩
    · rcases ih with ⟨⟨it, hit, hr⟩, h⟩ | ⟨hno, h⟩
      · exact .inl ⟨⟨it, List.mem_append_left _ hit, hr⟩, h⟩
      · refine .inr ⟨fun it hit => ?_, h⟩
        rcases List.mem_append.1 hit with hit | hit
        · exact hno it hit
        · rwa [List.mem_singleton.1 hit]

/-- The item defines an entry with a tag. -/
def DefinesTag (tag : Word) (it : Item) : Prop := ∃ d, it.change = .define d ∧ d.tag = tag

theorem lookupTag_defineTag (ti : List (Word × Index)) (it : Item) (tag : Word) :
    (DefinesTag tag it ∧ lookupTag tag (defineTag ti it) = some it.index) ∨
      (¬ DefinesTag tag it ∧ lookupTag tag (defineTag ti it) = lookupTag tag ti) := by
  unfold defineTag
  split
  next d hd =>
    by_cases ht : d.tag = tag
    · exact .inl ⟨⟨d, hd, ht⟩, ht ▸ lookupTag_addTag_same d.tag it.index ti⟩
    · refine .inr ⟨?_, lookupTag_addTag_ne _ _ (Ne.symm ht) _ _⟩
      rintro ⟨d', hd', ht'⟩
      rw [hd] at hd'
      cases hd'
      exact ht ht'
  next hno => exact .inr ⟨fun ⟨d, hd, _⟩ => hno d hd, rfl⟩

/-- After the DEFINE items a tag is looked up as before, unless one of them carries it. -/
theorem lookupTag_defined (items : List Item) (ti : List (Word × Index)) (tag : Word) :
    (∃ it ∈ items, DefinesTag tag it ∧
        lookupTag tag (items.foldl defineTag ti) = some it.index) ∨
      ((∀ it ∈ items, ¬ DefinesTag tag it) ∧
        lookupTag tag (items.foldl defineTag ti) = lookupTag tag ti) := by
  induction items using List.reverseRecOn with
  | nil => exact .inr ⟨(fun _ h => nomatch h), rfl⟩
  | append_singleton xs x ih =>
    rw [List.foldl_append, List.foldl_cons, List.foldl_nil]
    rcases lookupTag_defineTag (xs.foldl defineTag ti) x tag with ⟨hx, h⟩ | ⟨hx, h⟩ <;> rw [h]
    · exact .inl ⟨x, by simp, hx, rfl⟩
    · rcases ih with ⟨it, hit, hd, h⟩ | ⟨hno, h⟩
      · exact .inl ⟨it, List.mem_append_left _ hit, hd, h⟩
      · refine .inr ⟨fun it hit => ?_, h⟩
        rcases List.mem_append.1 hit with hit | hit
        · exact hno it hit
        · rwa [List.mem_singleton.1 hit]

/-! ### The dependents after a release (R12, R104) -/

/-- The dependents as one item of a release leaves them. -/
def releaseDependent (old : Entries) (v : Vector IndexSet 256) (it : Item) : Vector IndexSet 256 :=
  match it.change, (old.get it.index).live? with
  | .define { coupling := some c, .. }, _ => addDependent c.partner it.index v
  | .retire, some { coupling := some c, .. } => dropDependent c.partner it.index v
  | _, _ => v

theorem releaseDependents_eq (old : Entries) (items : List Item) (v : Vector IndexSet 256) :
    releaseDependents old items v = items.foldl (releaseDependent old) v := rfl

/-- The item defines an entry coupled to `e`. -/
def DefinesCoupled (e : Index) (it : Item) : Prop :=
  ∃ d c, it.change = .define d ∧ d.coupling = some c ∧ c.partner = e

/-- The item retires an entry coupled to `e`. -/
def RetiresCoupled (old : Entries) (e : Index) (it : Item) : Prop :=
  it.change = .retire ∧ ∃ a c, faces old it.index = some a ∧ a.coupling = some c ∧ c.partner = e

theorem mem_addDependent (partner d e i : Index) (v : Vector IndexSet 256) :
    d ∈ (addDependent partner i v).get e ↔ (partner = e ∧ d = i) ∨ d ∈ v.get e := by
  rw [addDependent_get]
  split
  next h => subst h; simp [mem_addIndex]
  next h => simp [Ne.symm h]

theorem mem_dropDependent (partner d e i : Index) (v : Vector IndexSet 256) :
    d ∈ (dropDependent partner i v).get e ↔ d ∈ v.get e ∧ ¬ (partner = e ∧ d = i) := by
  rw [dropDependent_get]
  split
  next h => subst h; simp [mem_dropIndex]
  next h => simp [Ne.symm h]

theorem mem_releaseDependent (old : Entries) (v : Vector IndexSet 256) (it : Item) (e d : Index) :
    d ∈ (releaseDependent old v it).get e ↔
      (DefinesCoupled e it ∧ d = it.index) ∨
        (d ∈ v.get e ∧ ¬ (RetiresCoupled old e it ∧ d = it.index)) := by
  unfold releaseDependent
  split
  next c hc =>
    rw [mem_addDependent]
    simp [DefinesCoupled, RetiresCoupled, hc]
  next c hc hr =>
    have hface := faces_of_live (live?_eq_some.1 hr)
    rw [mem_dropDependent]
    simp [DefinesCoupled, RetiresCoupled, hc, hface, faceOf]
  next hdef hret =>
    have hno : ¬ DefinesCoupled e it := by
      rintro ⟨d, c, hd, hc, -⟩
      obtain ⟨_, _, _, _, _, _, _, _, _⟩ := d
      cases hc
      exact hdef _ _ _ _ _ _ _ _ _ hd
    have hno' : ¬ RetiresCoupled old e it := by
      rintro ⟨hr, a, c, ha, hc, -⟩
      obtain ⟨r, hlive, rfl⟩ := faces_eq_some.1 ha
      obtain ⟨_, _, _, _, _, _, _, _, _, _, _, _, _, _⟩ := r
      cases hc
      exact hret _ _ _ _ _ _ _ _ _ _ _ _ _ _ hr (live?_eq_some.2 hlive)
    simp [hno, hno']

/-- Every item names its own entry, so what the items do to a dependent is what its own item does. -/
theorem mem_releaseDependents (old : Entries) {items : List Item}
    (hnodup : (items.map Item.index).Nodup) (v : Vector IndexSet 256) (e d : Index) :
    d ∈ (releaseDependents old items v).get e ↔
      (∃ it ∈ items, it.index = d ∧ DefinesCoupled e it) ∨
        (d ∈ v.get e ∧ ∀ it ∈ items, it.index = d → ¬ RetiresCoupled old e it) := by
  rw [releaseDependents_eq]
  induction items generalizing v with
  | nil => simp
  | cons x xs ih =>
    obtain ⟨hx, hxs⟩ := List.nodup_cons.1 hnodup
    have hother : ∀ it ∈ xs, it.index ≠ x.index := fun it hit hi =>
      hx (List.mem_map.2 ⟨it, hit, hi⟩)
    rw [List.foldl_cons, ih hxs, mem_releaseDependent]
    by_cases hd : x.index = d
    · subst hd
      have hno : ¬ ∃ it ∈ xs, it.index = x.index ∧ DefinesCoupled e it :=
        fun ⟨it, hit, hi, _⟩ => hother it hit hi
      have hno' : ∀ it ∈ xs, it.index = x.index → ¬ RetiresCoupled old e it :=
        fun it hit hi => absurd hi (hother it hit)
      have hall : (∀ it ∈ x :: xs, it.index = x.index → ¬ RetiresCoupled old e it) ↔
          ¬ RetiresCoupled old e x := by
        rw [List.forall_mem_cons]
        exact ⟨fun h => h.1 rfl, fun h => ⟨fun _ => h, hno'⟩⟩
      rw [hall, List.exists_mem_cons_iff]
      simp only [hno, true_and, and_true, or_false, false_or]
      exact and_iff_left hno'
    · simp [hd, Ne.symm hd]

/-! ### What the checks of a release say of the faces (R95 to R98) -/

/-- Checks (b) to (e) of all items passed, in the faces of the post-state. -/
structure ChecksPassed (L' : Index → Option Face) (deps : Vector IndexSet 256)
    (items : List Item) : Prop where
  tag : ∀ it ∈ items, ∀ d, it.change = .define d → ∀ j a, L' j = some a → a.tag = d.tag →
    j = it.index
  partner : ∀ it ∈ items, ∀ d c, it.change = .define d → d.coupling = some c →
    ∃ w, L' c.partner = some w ∧ w.kind = d.kind ∧ (d.retain = true → w.retain = true)
  own : ∀ it ∈ items, ∀ a c, L' it.index = some a → a.coupling = some c →
    ∃ w, L' c.partner = some w ∧ relationHolds c a.kind a.value w.value = true
  dependents : ∀ it ∈ items, ∀ d a c, d ∈ deps.get it.index → L' d = some a →
    a.coupling = some c →
    ∃ w, L' it.index = some w ∧ relationHolds c a.kind a.value w.value = true

theorem checkTag_none {post : Entries} {it : Item} {d : Definition} (h : checkTag post it = none)
    (hd : it.change = .define d) {j : Index} {a : Face} (ha : faces post j = some a)
    (hat : a.tag = d.tag) : j = it.index := by
  obtain ⟨r, hr, rfl⟩ := faces_eq_some.1 ha
  simp only [checkTag, hd, Option.map_eq_none_iff, List.find?_eq_none] at h
  have := h j (List.mem_finRange j)
  simp only [live?_eq_some.2 hr] at this
  by_contra hne
  exact this (by simpa [hne, faceOf] using hat)

theorem checkPartner_none {post : Entries} {it : Item} {d : Definition} {c : Coupling}
    (h : checkPartner post it = none) (hd : it.change = .define d) (hc : d.coupling = some c) :
    ∃ w, faces post c.partner = some w ∧ w.kind = d.kind ∧ (d.retain = true → w.retain = true) := by
  simp only [checkPartner, hd, hc] at h
  split at h
  next w hw =>
    split at h
    next => cases h
    next hkind =>
      split at h
      next => cases h
      next hretain =>
        refine ⟨_, faces_of_live (live?_eq_some.1 hw), not_not.1 hkind, fun hr => ?_⟩
        exact Bool.eq_true_of_not_eq_false fun hw => hretain ⟨hr, hw⟩
  next => cases h

theorem checkOwnCoupling_none {post : Entries} {it : Item} {a : Face} {c : Coupling}
    (h : checkOwnCoupling post it = none) (ha : faces post it.index = some a)
    (hc : a.coupling = some c) :
    ∃ w, faces post c.partner = some w ∧ relationHolds c a.kind a.value w.value = true := by
  obtain ⟨r, hr, rfl⟩ := faces_eq_some.1 ha
  have hrc : r.coupling = some c := hc
  simp only [checkOwnCoupling, live?_eq_some.2 hr, hrc] at h
  split at h
  next w hw =>
    split at h
    next hrel => exact ⟨_, faces_of_live (live?_eq_some.1 hw), hrel⟩
    next => cases h
  next => cases h

theorem checkDependents_none {deps : Vector IndexSet 256} {post : Entries} {it : Item} {d : Index}
    {a : Face} {c : Coupling} (h : checkDependents deps post it = none)
    (hd : d ∈ deps.get it.index) (ha : faces post d = some a) (hc : a.coupling = some c) :
    ∃ w, faces post it.index = some w ∧ relationHolds c a.kind a.value w.value = true := by
  obtain ⟨r, hr, rfl⟩ := faces_eq_some.1 ha
  have hrc : r.coupling = some c := hc
  have hone := List.findSome?_eq_none_iff.1 h d hd
  simp only [checkDependent, live?_eq_some.2 hr] at hone
  split at hone
  next => cases hone
  next w hw =>
    simp only [hrc] at hone
    split at hone
    next hrel => exact ⟨_, faces_of_live (live?_eq_some.1 hw), hrel⟩
    next => cases hone

theorem checksPassed {deps : Vector IndexSet 256} {post : Entries} {items : List Item}
    (h : ∀ it ∈ items, checkItem deps post it = none) :
    ChecksPassed (faces post) deps items := by
  have hall (it) (hit : it ∈ items) := checkItem_eq_none (h it hit)
  constructor
  · intro it hit d hd j a ha hat
    obtain ⟨-, htag, -⟩ := hall it hit
    exact checkTag_none htag hd ha hat
  · intro it hit d c hd hc
    obtain ⟨-, -, hpartner, -⟩ := hall it hit
    exact checkPartner_none hpartner hd hc
  · intro it hit a c ha hc
    obtain ⟨-, -, -, hown, -⟩ := hall it hit
    exact checkOwnCoupling_none hown ha hc
  · intro it hit d a c hd ha hc
    obtain ⟨-, -, -, -, hdep⟩ := hall it hit
    exact checkDependents_none hdep hd ha hc

/-! ### A release keeps the laws -/

section
variable {L L' : Index → Option Face} {ti : List (Word × Index)} {deps : Vector IndexSet 256}
  {items : List Item}

/-- R7: a tag that two entries of the post-state carry is no new one, for check (b) compares a DEFINE with
all of them, and of old ones no two are equal. -/
theorem FaceLaw.release_tags (h : FaceLaw L ti deps) (hL : FacesReleased L L' items)
    (hc : ChecksPassed L' deps items) {i j : Index} {a b : Face} (ha : L' i = some a)
    (hb : L' j = some b) (hab : a.tag = b.tag) : i = j := by
  rcases hL.origin ha with ⟨a0, v, ha0, rfl⟩ | ⟨it, hit, rfl, d, v, hd, rfl⟩
  · rcases hL.origin hb with ⟨b0, u, hb0, rfl⟩ | ⟨it, hit, rfl, d, u, hd, rfl⟩
    · exact h.tags i j a0 b0 ha0 hb0 hab
    · exact hc.tag it hit d hd i _ ha hab
  · exact (hc.tag it hit d hd j b hb hab.symm).symm

/-- R11: an item's own coupling is tested by checks (c) and (d), and that of an entry no item names by
check (e) of its partner. -/
theorem FaceLaw.release_coupled (h : FaceLaw L ti deps) (hL : FacesReleased L L' items)
    (hc : ChecksPassed L' deps items) {i : Index} {a : Face} {c : Coupling} (ha : L' i = some a)
    (hac : a.coupling = some c) :
    ∃ w, L' c.partner = some w ∧ w.kind = a.kind ∧ (a.retain = true → w.retain = true) ∧
      relationHolds c a.kind a.value w.value = true := by
  have hrel : ∃ w, L' c.partner = some w ∧ relationHolds c a.kind a.value w.value = true := by
    by_cases hex : ∃ it ∈ items, it.index = i
    · obtain ⟨it, hit, rfl⟩ := hex
      exact hc.own it hit a c ha hac
    · have hold : L i = some a := (hL.unnamed i fun it hit hi => hex ⟨it, hit, hi⟩).symm.trans ha
      by_cases hex' : ∃ it ∈ items, it.index = c.partner
      · obtain ⟨it, hit, hi⟩ := hex'
        rw [← hi]
        exact hc.dependents it hit i a c ((h.dependent _ _).2 ⟨a, c, hold, hac, hi.symm⟩) ha hac
      · obtain ⟨w, hw, -, -, hrel⟩ := h.coupled i a c hold hac
        exact ⟨w, (hL.unnamed _ fun it hit hi => hex' ⟨it, hit, hi⟩).trans hw, hrel⟩
  obtain ⟨w, hw, hrel⟩ := hrel
  rcases hL.origin ha with ⟨a0, v, ha0, rfl⟩ | ⟨it, hit, rfl, d, v, hd, rfl⟩
  · obtain ⟨w0, hw0, hkind, hretain, -⟩ := h.coupled i a0 c ha0 hac
    obtain ⟨u, rfl⟩ := hL.kept hw0 hw
    exact ⟨_, hw, hkind, hretain, hrel⟩
  · obtain ⟨w', hw', hkind, hretain⟩ := hc.partner it hit d c hd hac
    rw [hw] at hw'
    cases hw'
    exact ⟨w, hw, hkind, hretain, hrel⟩

end

/-- R104: the tag index follows the faces through a release. -/
theorem FaceLaw.release_index {old : Entries} {L' : Index → Option Face} {ti : List (Word × Index)}
    {deps : Vector IndexSet 256} {items : List Item} (h : FaceLaw (faces old) ti deps)
    (hL : FacesReleased (faces old) L' items) (hc : ChecksPassed L' deps items) (tag : Word)
    (i : Index) :
    lookupTag tag (releaseTags old items ti) = some i ↔ ∃ a, L' i = some a ∧ a.tag = tag := by
  rw [releaseTags_eq]
  rcases lookupTag_defined items (items.foldl (retireTag old) ti) tag with
    ⟨it, hit, ⟨d, hd, rfl⟩, hlook⟩ | ⟨hnodef, hlook⟩ <;> rw [hlook]
  · obtain ⟨-, v, hv⟩ := hL.define it hit d hd
    constructor
    · intro hi
      cases hi
      exact ⟨_, hv, rfl⟩
    · rintro ⟨a, ha, hat⟩
      rw [hc.tag it hit d hd i a ha hat]
  · have hstays : (∃ a, L' i = some a ∧ a.tag = tag) ↔
        ∃ a, faces old i = some a ∧ a.tag = tag ∧ ∀ it ∈ items, it.change = .retire → it.index ≠ i := by
      constructor
      · rintro ⟨a', ha', rfl⟩
        rcases hL.origin ha' with ⟨a, v, ha, rfl⟩ | ⟨it, hit, -, d, v, hd, rfl⟩
        · refine ⟨a, ha, rfl, ?_⟩
          rintro it hit hr rfl
          rw [(hL.retire it hit hr).2] at ha'
          cases ha'
        · exact absurd ⟨d, hd, rfl⟩ (hnodef it hit)
      · rintro ⟨a, ha, rfl, hret⟩
        obtain ⟨a', ha'⟩ := hL.survives ha hret
        obtain ⟨v, rfl⟩ := hL.kept ha ha'
        exact ⟨_, ha', rfl⟩
    rw [hstays]
    rcases lookupTag_retired old items ti tag with
      ⟨⟨it, hit, hr, b, hb, hbt⟩, hlook⟩ | ⟨hnoret, hlook⟩ <;> rw [hlook]
    · refine ⟨(fun h => nomatch h), ?_⟩
      rintro ⟨a, ha, rfl, hret⟩
      exact absurd (h.tags _ _ b a hb ha hbt) (hret it hit hr)
    · rw [h.index]
      constructor
      · rintro ⟨a, ha, rfl⟩
        refine ⟨a, ha, rfl, ?_⟩
        rintro it hit hr rfl
        exact hnoret it hit ⟨hr, a, ha, rfl⟩
      · rintro ⟨a, ha, hat, -⟩
        exact ⟨a, ha, hat⟩

/-- R12, R104: the dependents follow the faces through a release. -/
theorem FaceLaw.release_dependent {old : Entries} {L' : Index → Option Face}
    {ti : List (Word × Index)} {deps : Vector IndexSet 256} {items : List Item}
    (h : FaceLaw (faces old) ti deps) (hL : FacesReleased (faces old) L' items)
    (hnodup : (items.map Item.index).Nodup) (e d : Index) :
    d ∈ (releaseDependents old items deps).get e ↔
      ∃ a c, L' d = some a ∧ a.coupling = some c ∧ c.partner = e := by
  rw [mem_releaseDependents old hnodup, h.dependent]
  constructor
  · rintro (⟨it, hit, rfl, df, c, hd, hcoup, he⟩ | ⟨⟨a, c, ha, hcoup, he⟩, hnoret⟩)
    · obtain ⟨-, v, hv⟩ := hL.define it hit df hd
      exact ⟨_, c, hv, hcoup, he⟩
    · obtain ⟨a', ha'⟩ := hL.survives ha fun it hit hr hi =>
        hnoret it hit hi ⟨hr, a, c, hi ▸ ha, hcoup, he⟩
      obtain ⟨v, rfl⟩ := hL.kept ha ha'
      exact ⟨_, c, ha', hcoup, he⟩
  · rintro ⟨a', c, ha', hcoup, he⟩
    rcases hL.origin ha' with ⟨a, v, ha, rfl⟩ | ⟨it, hit, rfl, df, v, hd, rfl⟩
    · refine .inr ⟨⟨a, c, ha, hcoup, he⟩, ?_⟩
      rintro it hit rfl ⟨hr, -⟩
      rw [(hL.retire it hit hr).2] at ha'
      cases ha'
    · exact .inl ⟨it, hit, rfl, df, c, hd, hcoup, he⟩

theorem tableLaw_released {p : Port} {t : TableController}
    (hpass : firstFailure t.dependents (postState p (t.g + 1) (t.drafts.get p) t.entries)
      (t.drafts.get p) = none)
    (hclaims : ClaimsAgree t.entries t.drafts) (h : tableLaw t) : tableLaw (released p t) := by
  rw [tableLaw_iff] at h ⊢
  have hL := facesReleased (p := p) (g := t.g + 1) hclaims
  have hc := checksPassed ((firstFailure_eq_none _ _ _).1 hpass)
  have hfaces : faces (released p t).entries =
      faces (postState p (t.g + 1) (t.drafts.get p) t.entries) := by
    have hdrop := faces_of_content (dropClaims_content (t.drafts.get p)
      (postState p (t.g + 1) (t.drafts.get p) t.entries))
    rcases released_entries p t with he | he <;> rw [he]
    · exact hdrop
    · rw [faces_vacate]; exact hdrop
  have hindex : (released p t).tagIndex = releaseTags t.entries (t.drafts.get p) t.tagIndex := by
    unfold released
    split <;> rfl
  have hdeps : (released p t).dependents =
      releaseDependents t.entries (t.drafts.get p) t.dependents := by
    unfold released
    split <;> rfl
  rw [hfaces, hindex, hdeps]
  exact ⟨fun i j a b => h.release_tags hL hc, h.release_index hL hc,
    fun i a c => h.release_coupled hL hc, h.release_dependent hL (hclaims.nodup p)⟩

/-! ### A load (R190) -/

/-- What an image makes of an entry: the record for its index. -/
theorem loadRecords_get_of_mem {rs : List RetainedRecord} {r : RetainedRecord}
    (hnodup : (rs.map RetainedRecord.index).Nodup) (hr : r ∈ rs) (t : TableController) :
    (rs.foldl loadRecord t).entries.get r.index =
      { content := .live (loadedRec r), claim := none, waiters := noPorts } := by
  induction rs generalizing t with
  | nil => cases hr
  | cons x xs ih =>
    obtain ⟨hx, hxs⟩ := List.nodup_cons.1 hnodup
    rcases List.mem_cons.1 hr with rfl | hr
    · rcases loadRecords_get xs (loadRecord t r) r.index with h | ⟨q, hq, hi, -⟩
      · rw [List.foldl_cons, h, loadRecord_get, if_pos rfl]
      · exact absurd (List.mem_map.2 ⟨q, hq, hi⟩) hx
    · exact ih hxs hr _

theorem loadRecords_get_of_not_mem {rs : List RetainedRecord} {i : Index}
    (h : ∀ r ∈ rs, r.index ≠ i) (t : TableController) :
    (rs.foldl loadRecord t).entries.get i = t.entries.get i := by
  rcases loadRecords_get rs t i with he | ⟨r, hr, hi, -⟩
  · exact he
  · exact absurd hi (h r hr)

theorem loadRecords_lookupTag {rs : List RetainedRecord} (t : TableController) (tag : Word) :
    (∃ r ∈ rs, r.tag = tag ∧ lookupTag tag (rs.foldl loadRecord t).tagIndex = some r.index) ∨
      ((∀ r ∈ rs, r.tag ≠ tag) ∧
        lookupTag tag (rs.foldl loadRecord t).tagIndex = lookupTag tag t.tagIndex) := by
  induction rs using List.reverseRecOn with
  | nil => exact .inr ⟨(fun _ h => nomatch h), rfl⟩
  | append_singleton xs x ih =>
    rw [List.foldl_append, List.foldl_cons, List.foldl_nil]
    by_cases hx : x.tag = tag
    · exact .inl ⟨x, by simp, hx, hx ▸ lookupTag_addTag_same _ _ _⟩
    · have hlook : lookupTag tag (loadRecord (xs.foldl loadRecord t) x).tagIndex =
          lookupTag tag (xs.foldl loadRecord t).tagIndex :=
        lookupTag_addTag_ne _ _ (Ne.symm hx) _ _
      rw [hlook]
      rcases ih with ⟨r, hr, ht, h⟩ | ⟨hno, h⟩
      · exact .inl ⟨r, List.mem_append_left _ hr, ht, h⟩
      · refine .inr ⟨fun r hr => ?_, h⟩
        rcases List.mem_append.1 hr with hr | hr
        · exact hno r hr
        · rwa [List.mem_singleton.1 hr]

theorem mem_loadRecords_dependents (rs : List RetainedRecord) (t : TableController) (e d : Index) :
    d ∈ (rs.foldl loadRecord t).dependents.get e ↔
      (∃ r ∈ rs, r.index = d ∧ ∃ c, r.coupling = some c ∧ c.partner = e) ∨
        d ∈ t.dependents.get e := by
  induction rs generalizing t with
  | nil => simp
  | cons x xs ih =>
    rw [List.foldl_cons, ih, List.exists_mem_cons_iff]
    have hx : d ∈ (loadRecord t x).dependents.get e ↔
        (x.index = d ∧ ∃ c, x.coupling = some c ∧ c.partner = e) ∨ d ∈ t.dependents.get e := by
      unfold loadRecord
      split
      next c hc => rw [mem_addDependent]; simp [hc, and_comm, eq_comm]
      next hc => simp [hc]
    rw [hx, or_left_comm]
    exact or_assoc.symm

theorem resetTable_dependents (e d : Index) : d ∉ resetTable.dependents.get e := by
  simp [resetTable, Vector.get_eq_getElem]

/-- The face of a loaded record. -/
theorem faces_loaded {rs : List RetainedRecord} (hnodup : (rs.map RetainedRecord.index).Nodup)
    {i : Index} {a : Face} : faces (rs.foldl loadRecord resetTable).entries i = some a ↔
      ∃ r ∈ rs, r.index = i ∧ faceOf (loadedRec r) = a := by
  constructor
  · intro h
    obtain ⟨q, hq, rfl⟩ := faces_eq_some.1 h
    by_cases hex : ∃ r ∈ rs, r.index = i
    · obtain ⟨r, hr, rfl⟩ := hex
      rw [loadRecords_get_of_mem hnodup hr] at hq
      cases hq
      exact ⟨r, hr, rfl, rfl⟩
    · rw [loadRecords_get_of_not_mem fun r hr hi => hex ⟨r, hr, hi⟩, resetTable_get] at hq
      cases hq
  · rintro ⟨r, hr, rfl, rfl⟩
    refine faces_of_live ?_
    rw [loadRecords_get_of_mem hnodup hr]

theorem tableLaw_loaded {rs : List RetainedRecord} (h : imageLaw rs) :
    tableLaw (rs.foldl loadRecord resetTable) := by
  obtain ⟨hindex, htag, hcoupled⟩ := h
  rw [tableLaw_iff]
  constructor
  case tags =>
    intro i j a b ha hb hab
    obtain ⟨r, hr, rfl, rfl⟩ := (faces_loaded hindex).1 ha
    obtain ⟨q, hq, rfl, rfl⟩ := (faces_loaded hindex).1 hb
    rw [List.inj_on_of_nodup_map htag hr hq hab]
  case index =>
    intro tag i
    rcases loadRecords_lookupTag (rs := rs) resetTable tag with ⟨r, hr, rfl, hlook⟩ | ⟨hno, hlook⟩ <;>
      rw [hlook]
    · constructor
      · intro hi
        cases hi
        exact ⟨_, (faces_loaded hindex).2 ⟨r, hr, rfl, rfl⟩, rfl⟩
      · rintro ⟨a, ha, hat⟩
        obtain ⟨q, hq, rfl, rfl⟩ := (faces_loaded hindex).1 ha
        rw [List.inj_on_of_nodup_map htag hq hr hat]
    · refine ⟨(fun h => nomatch h), ?_⟩
      rintro ⟨a, ha, rfl⟩
      obtain ⟨q, hq, rfl, rfl⟩ := (faces_loaded hindex).1 ha
      exact absurd rfl (hno q hq)
  case coupled =>
    intro i a c ha hc
    obtain ⟨r, hr, rfl, rfl⟩ := (faces_loaded hindex).1 ha
    obtain ⟨w, hw, hi, hkind, hrel⟩ := hcoupled r hr c hc
    exact ⟨_, (faces_loaded hindex).2 ⟨w, hw, hi, rfl⟩, hkind, fun _ => rfl, hrel⟩
  case dependent =>
    intro e d
    rw [mem_loadRecords_dependents]
    constructor
    · rintro (⟨r, hr, rfl, c, hc, he⟩ | h)
      · exact ⟨_, c, (faces_loaded hindex).2 ⟨r, hr, rfl, rfl⟩, hc, he⟩
      · exact absurd h (resetTable_dependents e d)
    · rintro ⟨a, c, ha, hc, he⟩
      obtain ⟨r, hr, rfl, rfl⟩ := (faces_loaded hindex).1 ha
      exact .inl ⟨r, hr, rfl, c, hc, he⟩

/-! ### Every move keeps the laws -/

theorem tableLaw_of_faces {t t' : TableController} (hf : faces t'.entries = faces t.entries)
    (hti : t'.tagIndex = t.tagIndex) (hd : t'.dependents = t.dependents) (h : tableLaw t) :
    tableLaw t' := by
  rw [tableLaw_iff] at h ⊢
  rw [hf, hti, hd]
  exact h

theorem tableLaw_coreMove {t t' : TableController} (hm : CoreMove t t')
    (hclaims : ClaimsAgree t.entries t.drafts) (h : tableLaw t) : tableLaw t' := by
  cases hm with
  | subscribe e hsub => exact tableLaw_of_faces (faces_resubscribed hsub) rfl rfl h
  | wait p q i hi hne => exact tableLaw_of_faces (faces_of_content (set_content rfl)) rfl rfl h
  | create p i c hclaim hspace hstate =>
    exact tableLaw_of_faces (faces_of_content (set_content rfl)) rfl rfl h
  | merge p i c it hitem hkind => exact h
  | takeOut p i => exact tableLaw_of_faces (faces_of_content (dropClaims_content _ _)) rfl rfl h
  | empty p => exact tableLaw_of_faces (faces_of_content (dropClaims_content _ _)) rfl rfl h
  | sessionEnd p =>
    refine tableLaw_of_faces (t := t) ((faces_vacate _ _).trans ?_) rfl rfl h
    exact (faces_forgotten p _).trans
      (faces_of_content (e := t.entries) (dropClaims_content (t.drafts.get p) _))
  | anchor p => exact tableLaw_of_faces (faces_vacate _ _) rfl rfl h
  | unanchor p => exact tableLaw_of_faces (faces_vacate _ _) rfl rfl h
  | release p hg hpass => exact tableLaw_released hpass hclaims h

theorem tableLaw_move {im : List RetainedRecord} {t t' : TableController} (hm : TableMove im t t')
    (him : imageLaw im) (hclaims : ClaimsAgree t.entries t.drafts) (h : tableLaw t) :
    tableLaw t' := by
  cases hm with
  | core _ hm => exact tableLaw_coreMove hm hclaims h
  | saveAnchor => exact h
  | unsaveAnchor => exact tableLaw_of_faces (faces_vacate _ _) rfl rfl h
  | wipe => exact tableLaw_loaded (rs := []) ⟨.nil, .nil, fun _ h => nomatch h⟩
  | load => exact tableLaw_loaded him

theorem imageLaw_storedImage {st : RetainedStore} (h : selectedImageLaw st) :
    imageLaw (storedImage st) := by
  unfold storedImage
  split
  next n hn => exact h n hn
  next => exact ⟨.nil, .nil, fun _ h => nomatch h⟩

theorem served_release {p : Port} {s : State} (hq : quiet p s = true) :
    served (.release p []) s = .next (servedState p (opcodeByte .release) 0 (opRelease p s).2 (sentByte p s)
      (opRelease p s).1) :=
  served_table (o := .release) (quiet_link hq)
    (judge_of_quiet hq rfl fun hsup => nomatch hsup)

/-- Settles O58: every move keeps the laws, a release for its checks and a load for the laws of its image;
a release served whole moves the table by that release alone. -/
theorem tableLawsKept : Obligations.TableLawsKept := by
  constructor
  · intro s t hstart hclaims hlaw himage h
    exact tableLaw_step
      (fun t' hm => tableLaw_move hm (imageLaw_storedImage himage) ((claimLaw_iff s).1 hclaims))
      hstart hlaw h
  · intro p s t hq hclaims hlaw h
    rw [served_release hq] at h
    cases h
    rcases (opRelease_work p s).table with heq | hm
    · exact heq ▸ hlaw
    · exact tableLaw_coreMove hm ((claimLaw_iff s).1 hclaims) hlaw

end Sys2Proof.Proofs

/-! PROOF. The phases of a save and the validity of the active bank (R175 to R187). The law on the Save
Engine alone is kept apart from what an operation in progress says of it; a save's work on the Store stands
only beside operations that leave the save alone. -/

namespace Sys2Proof.Proofs
open Sys2Proof.Machine

/-! ### The law in two parts -/

/-- What the Save Engine holds in each phase, whatever operation is in progress. -/
structure EngineLaw (e : SaveEngine) : Prop where
  idle : e.record.state = .idle → e.record.endPending = none ∧ e.work = .none ∧ e.request = none
  target : e.record.state ≠ .idle → e.record.endPending = none →
    ∃ n, e.record.target = some n ∧ e.active ≠ some n
  work : e.work ≠ .none → e.record.endPending = none ∧ e.request = none ∧
    workPhase e.work = some e.record.state
  copyRequest : e.request = some .copy → e.record.endPending = none ∧ e.record.state = .copying
  endRequest : e.request = some .finish → e.record.endPending.isSome = true
  copied : e.record.copied ≤ 256 ∧
    (e.record.state = .erasing ∨ e.record.state = .copying →
      e.record.copied ≤ e.record.nextIndex.val)

/-- What an operation in progress says of the Save Engine. -/
structure OpLaw (e : SaveEngine) (op : Option TableOperation) : Prop where
  startup : e.startup = true → e.record.state = .idle ∧ op = none
  copying : ∀ v, op.map TableOperation.finish = some (.copy v) →
    e.record.state = .copying ∧ e.work = .none ∧ e.request ≠ some .copy
  starting : ∀ p g, op.map TableOperation.finish = some (.saveStart p g) → e.record.state = .idle
  ending : op.map TableOperation.finish = some .saveEnd →
    e.record.endPending.isSome = true ∧ e.request = none
  wiping : op.map TableOperation.finish = some (.wipe true) →
    e.work = .none ∧ (e.record.state = .erasing ∨ e.record.state = .copying)
  seen : ∀ o r, op = some o → o.saveSeen = some r →
    changesSave o.finish = true ∧ r.state = e.record.state ∧
      (o.finish = .saveEnd → r.endPending.isSome = true)

/-- The active bank is valid, in a Retained Store. -/
def ValidActive (active : Option BankName) (st : RetainedStore) : Prop :=
  ∀ n, active = some n → bankValid (st.get n) = true

/-- The phases of a save and the valid active bank, of an engine, an operation and a Store. -/
structure Phases (e : SaveEngine) (op : Option TableOperation) (st : RetainedStore) : Prop where
  engine : EngineLaw e
  op : OpLaw e op
  valid : ValidActive e.active st

theorem phases_iff (s : State) :
    SaveLaw s ∧ activeValid s ↔ Phases s.save s.arbiter.op s.store := by
  constructor
  · rintro ⟨h, hv⟩
    exact ⟨⟨h.idle, h.target, h.work, h.copyRequest, h.endRequest, h.copied⟩,
      ⟨h.startup, h.copying, h.starting, h.ending, h.wiping, h.seen⟩, hv⟩
  · rintro ⟨he, ho, hv⟩
    exact ⟨⟨he.idle, ho.startup, he.target, he.work, he.copyRequest, he.endRequest, ho.copying,
      ho.starting, ho.ending, ho.wiping, ho.seen, he.copied⟩, hv⟩

/-! ### Operations that leave the save alone -/

/-- No operation is in progress, or one that shows the save record as it stands. -/
def SaveUntouched (op : Option TableOperation) : Prop :=
  ∀ o, op = some o → changesSave o.finish = false ∧ o.saveSeen = none

theorem SaveUntouched.finish {op : Option TableOperation} {f : Finish} (h : SaveUntouched op)
    (hf : op.map TableOperation.finish = some f) : changesSave f = false := by
  obtain ⟨o, ho, rfl⟩ := Option.map_eq_some_iff.1 hf
  exact (h o ho).1

/-- Such an operation says nothing of the Save Engine. -/
theorem OpLaw.of_untouched {e : SaveEngine} {op : Option TableOperation} (h : SaveUntouched op)
    (hstart : e.startup = true → e.record.state = .idle ∧ op = none) : OpLaw e op :=
  ⟨hstart, fun _ hf => (Bool.noConfusion (h.finish hf)), fun _ _ hf => (Bool.noConfusion (h.finish hf)),
    fun hf => (Bool.noConfusion (h.finish hf)), fun hf => (Bool.noConfusion (h.finish hf)),
    fun o r ho hr => by rw [(h o ho).2] at hr; cases hr⟩

/-- Beside a work on the Store no operation in progress touches the save: each that does stands in a phase
without one (R178, R180, R185, R187). -/
theorem untouched_of_work {e : SaveEngine} {op : Option TableOperation} (he : EngineLaw e)
    (ho : OpLaw e op) (hw : e.work ≠ .none) : SaveUntouched op := by
  obtain ⟨hend, -, -⟩ := he.work hw
  have hplain : ∀ o, op = some o → changesSave o.finish = false := by
    intro o hop
    have hf : op.map TableOperation.finish = some o.finish := congrArg _ hop
    cases hfin : o.finish with
    | plain | session p re | reload => rfl
    | wipe ends =>
      cases ends with
      | false => rfl
      | true => exact absurd (ho.wiping (hfin ▸ hf)).1 hw
    | saveStart p g => exact absurd (he.idle (ho.starting p g (hfin ▸ hf))).2.1 hw
    | copy v => exact absurd (ho.copying v (hfin ▸ hf)).2.1 hw
    | saveEnd =>
      have := (ho.ending (hfin ▸ hf)).1
      rw [hend] at this
      cases this
  refine fun o hop => ⟨hplain o hop, Option.eq_none_iff_forall_ne_some.2 fun r hr => ?_⟩
  have hchanges := (ho.seen o r hop hr).1
  rw [hplain o hop] at hchanges
  cases hchanges

theorem started_of_notIdle {e : SaveEngine} {op : Option TableOperation} (ho : OpLaw e op)
    (h : e.record.state ≠ .idle) : e.startup = false :=
  Bool.eq_false_iff.2 fun hs => h (ho.startup hs).1

theorem notIdle_of_work {e : SaveEngine} (he : EngineLaw e) (hw : e.work ≠ .none) :
    e.record.state ≠ .idle := fun h => hw (he.idle h).2.1

/-! ### An outcome decided (R185) -/

/-- The Save Engine with an outcome decided. -/
def decided (o : SaveOutcome) (e : SaveEngine) : SaveEngine :=
  { e with record := { e.record with endPending := some o }, work := .none, request := some .finish }

theorem EngineLaw.decided {e : SaveEngine} (o : SaveOutcome) (he : EngineLaw e)
    (h : e.record.state ≠ .idle) : EngineLaw (decided o e) :=
  ⟨fun hi => absurd hi h, fun _ hn => (nomatch hn), fun hw => absurd rfl hw, fun hr => (nomatch hr),
    fun _ => rfl, he.copied⟩

theorem OpLaw.decided {e : SaveEngine} {op : Option TableOperation} (o : SaveOutcome)
    (ho : OpLaw e op) (hend : op.map TableOperation.finish ≠ some .saveEnd) :
    OpLaw (decided o e) op :=
  ⟨ho.startup, fun v hv => ⟨(ho.copying v hv).1, rfl, fun h => nomatch h⟩, ho.starting,
    fun hf => absurd hf hend, fun hf => ⟨rfl, (ho.wiping hf).2⟩, ho.seen⟩

/-- The end of a work on the Store leaves the operation in progress alone. -/
theorem Phases.afterWork {e e' : SaveEngine} {op : Option TableOperation} {st st' : RetainedStore}
    (h : Phases e op st) (hw : e.work ≠ .none) (hstart : e'.startup = e.startup)
    (he : EngineLaw e') (hv : ValidActive e'.active st') : Phases e' op st' := by
  refine ⟨he, .of_untouched (untouched_of_work h.engine h.op hw) fun hs => ?_, hv⟩
  rw [hstart, started_of_notIdle h.op (notIdle_of_work h.engine hw)] at hs
  cases hs

/-- The bank that is not active may be written over. -/
theorem ValidActive.setBank {active : Option BankName} {st : RetainedStore} {n : BankName} {b : Bank}
    (h : ValidActive active st) (hn : active ≠ some n) : ValidActive active (st.set n b) := by
  intro m hm
  rw [RetainedStore.get_set, if_neg]
  · exact h m hm
  · rintro rfl
    exact hn hm

/-! ### After a visit (R181, R183) -/

theorem EngineLaw.advanced {s : State} (hstate : s.save.record.state = .copying)
    (hend : s.save.record.endPending = none)
    (htarget : ∃ n, s.save.record.target = some n ∧ s.save.active ≠ some n)
    (hcopied : s.save.record.copied ≤ s.save.record.nextIndex.val + 1) :
    EngineLaw (advanceSave s).save := by
  have hnext := s.save.record.nextIndex.isLt
  simp only [advanceSave]
  split
  next h =>
    exact ⟨fun hi => absurd (hstate.symm.trans hi) (by decide), fun _ _ => htarget,
      fun hw => absurd rfl hw, fun _ => ⟨hend, hstate⟩, fun hr => (nomatch hr),
      Nat.le_trans hcopied (by omega), fun _ => hcopied⟩
  next h =>
    exact ⟨fun hi => (nomatch hi), fun _ _ => htarget, fun _ => ⟨hend, rfl, rfl⟩, fun hr => (nomatch hr),
      fun hr => (nomatch hr), Nat.le_trans hcopied (by omega), fun hs => nomatch hs⟩

theorem advanceSave_active (s : State) : (advanceSave s).save.active = s.save.active := by
  simp only [advanceSave]
  split <;> rfl

/-! ### The ends of the works on the Store (R179 to R184) -/

theorem bankValid_writeHeader {sequence gs : Gen} {count : Nat} (b : Bank) (h : count ≤ 256) :
    bankValid (writeHeader sequence gs count b) = true := by
  simp [bankValid, writeHeader, guarded, h]

theorem eraseComplete_phases (v : Bool) {s : State} {op : Option TableOperation}
    (h : Phases s.save op s.store) :
    Phases (eraseComplete v s).save op (eraseComplete v s).store := by
  simp only [eraseComplete]
  split
  next hw =>
    have hwork : s.save.work ≠ .none := by rw [hw]; exact nofun
    obtain ⟨hend, -, hphase⟩ := h.engine.work hwork
    rw [hw] at hphase
    have hstate : s.save.record.state = .erasing := (Option.some.inj hphase).symm
    have hidle := notIdle_of_work h.engine hwork
    obtain ⟨n, hn, hactive⟩ := h.engine.target hidle hend
    cases v with
    | true =>
      simp only [hn, if_true]
      refine h.afterWork hwork rfl ?_ (h.valid.setBank hactive)
      exact ⟨fun hi => (nomatch hi), fun _ _ => ⟨n, rfl, hactive⟩, fun hw => absurd rfl hw,
        fun _ => ⟨hend, rfl⟩, fun hr => (nomatch hr), h.engine.copied.1,
        fun _ => h.engine.copied.2 (.inl hstate)⟩
    | false => exact h.afterWork hwork rfl (h.engine.decided .fault hidle) h.valid
  next => exact h

theorem programComplete_phases (v : Bool) {s : State} {op : Option TableOperation}
    (h : Phases s.save op s.store) :
    Phases (programComplete v s).save op (programComplete v s).store := by
  simp only [programComplete]
  split
  next r hw =>
    have hwork : s.save.work ≠ .none := by rw [hw]; exact nofun
    obtain ⟨hend, -, hphase⟩ := h.engine.work hwork
    rw [hw] at hphase
    have hstate : s.save.record.state = .copying := (Option.some.inj hphase).symm
    have hidle := notIdle_of_work h.engine hwork
    obtain ⟨n, hn, hactive⟩ := h.engine.target hidle hend
    cases v with
    | true =>
      rw [hn]
      simp only [if_true]
      have hcopied := h.engine.copied.2 (.inr hstate)
      refine h.afterWork hwork ?_ (EngineLaw.advanced hstate hend ⟨n, rfl, hactive⟩
        (Nat.succ_le_succ hcopied)) ?_
      · exact advanceSave_startup _
      · rw [advanceSave_active, advanceSave_store]
        exact h.valid.setBank hactive
    | false => exact h.afterWork hwork rfl (h.engine.decided .fault hidle) h.valid
  next => exact h

theorem headerComplete_phases (v : Bool) {s : State} {op : Option TableOperation}
    (h : Phases s.save op s.store) :
    Phases (headerComplete v s).save op (headerComplete v s).store := by
  simp only [headerComplete]
  split
  next hw =>
    have hwork : s.save.work ≠ .none := by rw [hw]; exact nofun
    obtain ⟨hend, hreq, hphase⟩ := h.engine.work hwork
    rw [hw] at hphase
    have hstate : s.save.record.state = .closing := (Option.some.inj hphase).symm
    have hidle := notIdle_of_work h.engine hwork
    obtain ⟨n, hn, hactive⟩ := h.engine.target hidle hend
    simp only [hn]
    cases v with
    | true =>
      refine h.afterWork hwork rfl ?_ fun m hm => ?_
      · exact ⟨fun hi => absurd hi hidle, fun _ hn => (nomatch hn), fun hw => absurd rfl hw,
          fun hr => (nomatch hr), fun _ => rfl, h.engine.copied⟩
      · cases hm
        show bankValid (RetainedStore.get (RetainedStore.set _ _ _) _) = true
        rw [RetainedStore.get_set, if_pos rfl]
        exact bankValid_writeHeader _ h.engine.copied.1
    | false =>
      refine h.afterWork hwork rfl ?_ (h.valid.setBank hactive)
      exact ⟨fun hi => absurd hi hidle, h.engine.target, fun _ => ⟨hend, hreq, hphase⟩,
        h.engine.copyRequest, h.engine.endRequest, h.engine.copied⟩
  next => exact h

theorem reeraseComplete_phases (v : Bool) {s : State} {op : Option TableOperation}
    (h : Phases s.save op s.store) :
    Phases (reeraseComplete v s).save op (reeraseComplete v s).store := by
  simp only [reeraseComplete]
  split
  next hw =>
    have hwork : s.save.work ≠ .none := by rw [hw]; exact nofun
    have hidle := notIdle_of_work h.engine hwork
    obtain ⟨n, hn, hactive⟩ := h.engine.target hidle (h.engine.work hwork).1
    simp only [hn]
    cases v with
    | true => exact h.afterWork hwork rfl (h.engine.decided .fault hidle) (h.valid.setBank hactive)
    | false => exact h.afterWork hwork rfl (h.engine.decided .fault hidle) h.valid
  next => exact h

/-! ### Abort (R186) -/

theorem seenRecord_of_phases {s : State} (h : OpLaw s.save s.arbiter.op)
    (hseen : (seenRecord s).endPending = none) :
    (seenRecord s).state = s.save.record.state ∧
      s.arbiter.op.map TableOperation.finish ≠ some .saveEnd := by
  unfold seenRecord at hseen ⊢
  split at hseen
  next r hop =>
    obtain ⟨-, hstate, hend⟩ := h.seen _ _ hop rfl
    refine ⟨hstate, fun hf => ?_⟩
    rw [hop] at hf
    have := hend (Option.some.inj hf)
    rw [hseen] at this
    cases this
  next =>
    refine ⟨rfl, fun hf => ?_⟩
    have := (h.ending hf).1
    rw [hseen] at this
    cases this

theorem portSaveAbort_phases (p : Port) {s : State} (h : Phases s.save s.arbiter.op s.store) :
    Phases (portSaveAbort p s).1.save (portSaveAbort p s).1.arbiter.op
      (portSaveAbort p s).1.store := by
  rcases portSaveAbort_state p s with he | ⟨he, hidle, -, hend⟩ <;> rw [he]
  · exact h
  · obtain ⟨hstate, hne⟩ := seenRecord_of_phases h.op hend
    rw [hstate] at hidle
    exact ⟨h.engine.decided .aborted hidle, h.op.decided .aborted hne, h.valid⟩

/-! ### Grants -/

/-- The operation that a grant puts in progress. -/
def begun (r : Requester) (a : Option Answer) (f : Finish) (e : SaveEngine) : TableOperation :=
  { requester := r, answer := a, finish := f
    saveSeen := if changesSave f then some e.record else none }

/-- A grant of an operation that leaves the save alone. -/
theorem OpLaw.begin_untouched {r : Requester} {a : Option Answer} {f : Finish} {e : SaveEngine}
    (hstart : e.startup = false) (hf : changesSave f = false) : OpLaw e (some (begun r a f e)) := by
  refine .of_untouched (fun o ho => ?_) fun hs => ?_
  · cases ho
    exact ⟨hf, if_neg (by rw [hf]; exact Bool.false_ne_true)⟩
  · rw [hstart] at hs
    cases hs

/-- A grant of an operation that changes the save: what that operation asks of the phase. -/
theorem OpLaw.begin {r : Requester} {a : Option Answer} {f : Finish} {e : SaveEngine}
    (hstart : e.startup = false)
    (hcopy : ∀ v, f = .copy v →
      e.record.state = .copying ∧ e.work = .none ∧ e.request ≠ some .copy)
    (hbegin : ∀ p g, f = .saveStart p g → e.record.state = .idle)
    (hend : f = .saveEnd → e.record.endPending.isSome = true ∧ e.request = none)
    (hwipe : f = .wipe true →
      e.work = .none ∧ (e.record.state = .erasing ∨ e.record.state = .copying)) :
    OpLaw e (some (begun r a f e)) := by
  refine ⟨fun hs => ?_, fun v hv => hcopy v (Option.some.inj hv),
    fun p g hg => hbegin p g (Option.some.inj hg), fun hf => hend (Option.some.inj hf),
    fun hf => hwipe (Option.some.inj hf), fun o q ho hq => ?_⟩
  · rw [hstart] at hs
    cases hs
  · cases ho
    simp only [begun] at hq
    split at hq
    next hf => cases hq; exact ⟨hf, rfl, fun hsave => (hend hsave).1⟩
    next => cases hq

theorem selectBank_valid {st : RetainedStore} {n : BankName} (h : selectBank st = some n) :
    bankValid (st.get n) = true := by
  unfold selectBank at h
  split at h
  next ha hb => cases h; exact ha
  next ha hb => cases h; exact hb
  next ha hb =>
    split at h
    · cases h; exact hb
    · cases h; exact ha
  next => cases h

theorem savePhaseEnds_iff (s : State) :
    savePhaseEnds s = true ↔ s.save.record.state = .erasing ∨ s.save.record.state = .copying := by
  simp [savePhaseEnds]

theorem runTableCmd_phases (r : Requester) (a : Option Answer) (p : Port) (c : TableCmd) {s : State}
    (hstart : s.save.startup = false) (h : Phases s.save none s.store) :
    Phases (runTableCmd p c s).1.save
      (some (begun r a (runTableCmd p c s).2.2 (runTableCmd p c s).1.save))
      (runTableCmd p c s).1.store := by
  rw [(runTableCmd_frame p c s).store]
  rcases runTableCmd_save p c s with
    ⟨hsave, hf | ⟨q, re, hf⟩⟩ | ⟨hsave, hidle, hf⟩ | ⟨hf, hsave⟩ | ⟨hidle, hf, hsave⟩ <;> rw [hf, hsave]
  · exact ⟨h.engine, .begin_untouched hstart rfl, h.valid⟩
  · exact ⟨h.engine, .begin_untouched hstart rfl, h.valid⟩
  · exact ⟨h.engine, .begin hstart (fun _ hf => nomatch hf) (fun _ _ _ => hidle)
      (fun hf => nomatch hf) (fun hf => nomatch hf), h.valid⟩
  · cases hends : savePhaseEnds s with
    | false => exact ⟨h.engine, .begin_untouched hstart rfl, h.valid⟩
    | true =>
      have hstate := (savePhaseEnds_iff s).1 hends
      have hidle : s.save.record.state ≠ .idle := by
        rcases hstate with hs | hs <;> rw [hs] <;> exact nofun
      rw [if_pos rfl]
      refine ⟨?_, .begin hstart (fun _ hf => nomatch hf) (fun _ _ hf => nomatch hf)
        (fun hf => nomatch hf) (fun _ => ⟨rfl, hstate⟩), h.valid⟩
      exact ⟨fun hi => absurd hi hidle, h.engine.target, fun hw => absurd rfl hw,
        fun hr => (nomatch hr), fun hr => (nomatch hr), h.engine.copied⟩
  · refine ⟨?_, .begin_untouched hstart rfl, fun n hn => selectBank_valid hn⟩
    exact ⟨h.engine.idle, fun hne => absurd hidle hne, h.engine.work, h.engine.copyRequest,
      h.engine.endRequest, h.engine.copied⟩

/-- The grant of a copy (R180). -/
theorem grantCopy_phases {s : State} (hstart : s.save.startup = false)
    (h : Phases s.save none s.store) (hr : s.save.request = some .copy) :
    Phases (grantSave .copy s).save (grantSave .copy s).arbiter.op (grantSave .copy s).store := by
  obtain ⟨hend, hstate⟩ := h.engine.copyRequest hr
  have hwork : s.save.work = .none := by
    by_contra hw
    rw [(h.engine.work hw).2.1] at hr
    cases hr
  refine ⟨?_, OpLaw.begin hstart (fun _ _ => ⟨hstate, hwork, fun hr => nomatch hr⟩)
    (fun _ _ hf => nomatch hf) (fun hf => nomatch hf) (fun hf => nomatch hf), h.valid⟩
  exact ⟨fun hi => absurd (hstate.symm.trans hi) (by decide), h.engine.target,
    fun hw => absurd hwork hw, fun hr => (nomatch hr), fun hr => (nomatch hr), h.engine.copied⟩

/-- The grant of the end of a save (R185). -/
theorem grantEnd_phases {s : State} (hstart : s.save.startup = false)
    (h : Phases s.save none s.store) (hr : s.save.request = some .finish) :
    Phases (grantSave .finish s).save (grantSave .finish s).arbiter.op
      (grantSave .finish s).store := by
  have hsome := h.engine.endRequest hr
  have hidle : s.save.record.state ≠ .idle := fun hi => by
    rw [(h.engine.idle hi).1] at hsome
    cases hsome
  have hwork : s.save.work = .none := by
    by_contra hw
    rw [(h.engine.work hw).2.1] at hr
    cases hr
  have hsave : (grantSave .finish s).save = { s.save with request := none } :=
    (opSaveEnd_frame (s.withSave { s.save with request := none })).save
  have hstore : (grantSave .finish s).store = s.store :=
    (opSaveEnd_frame (s.withSave { s.save with request := none })).store
  have hop : (grantSave .finish s).arbiter.op =
      some (begun .save none .saveEnd (grantSave .finish s).save) := rfl
  rw [hop, hsave, hstore]
  refine ⟨?_, OpLaw.begin hstart (fun _ hf => nomatch hf) (fun _ _ hf => nomatch hf)
    (fun _ => ⟨hsome, rfl⟩) (fun hf => nomatch hf), h.valid⟩
  exact ⟨fun hi => absurd hi hidle, h.engine.target, fun hw => absurd hwork hw,
    fun hr => (nomatch hr), fun hr => (nomatch hr), h.engine.copied⟩

/-! ### Completions -/

theorem OpLaw.none_of_started {e : SaveEngine} (h : e.startup = false) : OpLaw e none :=
  .of_untouched (fun _ ho => nomatch ho) fun hs => by rw [h] at hs; cases hs

theorem targetBank_ne (active : Option BankName) : active ≠ some (targetBank active) := by
  cases active with
  | none => exact nofun
  | some n => cases n <;> exact nofun

theorem finishCopy_phases {v : Visit} {s : State} {op : TableOperation} (hf : op.finish = .copy v)
    (h : Phases s.save (some op) s.store) :
    Phases (finishCopy v s).save none (finishCopy v s).store := by
  obtain ⟨hstate, hwork, hcopy⟩ := h.op.copying v (congrArg some hf)
  have hidle : s.save.record.state ≠ .idle := by rw [hstate]; exact nofun
  have hstart := started_of_notIdle h.op hidle
  unfold finishCopy
  split
  next => exact ⟨h.engine, .none_of_started hstart, h.valid⟩
  next hend =>
    rw [Bool.not_eq_true, Option.isSome_eq_false_iff, Option.isNone_iff_eq_none] at hend
    have htarget := h.engine.target hidle hend
    cases v with
    | noRecord =>
      refine ⟨EngineLaw.advanced hstate hend htarget
        (Nat.le_succ_of_le (h.engine.copied.2 (.inr hstate))), .none_of_started ?_, ?_⟩
      · rw [advanceSave_startup]
        exact hstart
      · show ValidActive (advanceSave s).save.active (advanceSave s).store
        rw [advanceSave_active, advanceSave_store]
        exact h.valid
    | torn => exact ⟨h.engine.decided .torn hidle, .none_of_started hstart, h.valid⟩
    | record r =>
      refine ⟨?_, .none_of_started hstart, h.valid⟩
      exact ⟨fun hi => absurd hi hidle, fun _ _ => htarget,
        fun _ => ⟨hend, rfl, congrArg some hstate.symm⟩, fun hr => (nomatch hr),
        fun hr => (nomatch hr), h.engine.copied⟩

theorem runFinish_phases {s : State} {op : TableOperation} (h : Phases s.save (some op) s.store) :
    Phases (runFinish op.finish s).save none (runFinish op.finish s).store := by
  have hstart : s.save.startup = false := by
    by_contra hs
    exact nomatch (h.op.startup (Bool.eq_true_of_not_eq_false hs)).2
  have hsame : Phases s.save none s.store := ⟨h.engine, .none_of_started hstart, h.valid⟩
  cases hf : op.finish with
  | plain => exact hsame
  | session p re => cases re <;> exact hsame
  | wipe ends =>
    cases ends with
    | false => exact hsame
    | true =>
      refine ⟨?_, .none_of_started hstart, h.valid⟩
      exact ⟨fun _ => ⟨rfl, rfl, rfl⟩, fun hn => absurd rfl hn, fun hw => absurd rfl hw,
        fun hr => (nomatch hr), fun hr => (nomatch hr), h.engine.copied.1, fun hs => by rcases hs with hs | hs <;> cases hs⟩
  | reload =>
    refine ⟨?_, .none_of_started hstart, h.valid⟩
    exact ⟨h.engine.idle, h.engine.target, h.engine.work, h.engine.copyRequest, h.engine.endRequest,
      h.engine.copied⟩
  | saveStart p g =>
    obtain ⟨hend, -, hreq⟩ := h.engine.idle (h.op.starting p g (congrArg some hf))
    refine ⟨?_, .none_of_started hstart, h.valid.setBank (targetBank_ne _)⟩
    exact ⟨fun hi => (nomatch hi), fun _ _ => ⟨_, rfl, targetBank_ne _⟩, fun _ => ⟨hend, hreq, rfl⟩,
      fun hr => absurd (hreq.symm.trans hr) (by decide), fun hr => absurd (hreq.symm.trans hr) (by decide),
      Nat.zero_le _, fun _ => Nat.zero_le _⟩
  | copy v => exact finishCopy_phases hf h
  | saveEnd =>
    obtain ⟨hsome, hreq⟩ := h.op.ending (congrArg some hf)
    have hwork : s.save.work = .none := by
      by_contra hw
      rw [(h.engine.work hw).1] at hsome
      cases hsome
    refine ⟨?_, .none_of_started hstart, h.valid⟩
    exact ⟨fun _ => ⟨rfl, hwork, hreq⟩, fun hn => absurd rfl hn, fun hw => absurd hwork hw,
      fun hr => absurd (hreq.symm.trans hr) (by decide), fun hr => absurd (hreq.symm.trans hr) (by decide),
      h.engine.copied.1, fun hs => by rcases hs with hs | hs <;> cases hs⟩

/-! ### Every step -/

/-- The Save Engine after a chip reset, whatever its device state and start-up mark. -/
theorem resetSave_phases (e : SaveEngine) (st : RetainedStore) (hrecord : e.record = resetSave.record)
    (hrequest : e.request = none) (hwork : e.work = .none) (hactive : e.active = none) :
    Phases e none st := by
  refine ⟨⟨fun _ => ⟨?_, hwork, hrequest⟩, fun hne => absurd ?_ hne, fun hw => absurd hwork hw,
      fun hr => absurd (hrequest.symm.trans hr) (by decide),
      fun hr => absurd (hrequest.symm.trans hr) (by decide), ?_, fun _ => ?_⟩,
    .of_untouched (fun _ ho => nomatch ho) fun _ => ⟨?_, rfl⟩,
    fun n hn => absurd (hactive.symm.trans hn) nofun⟩ <;> rw [hrecord]
  · rfl
  · rfl
  · exact Nat.zero_le _
  · exact Nat.zero_le _
  · rfl

theorem effect_phases {s t : State} (he : Effect s t) (h : Phases s.save s.arbiter.op s.store) :
    Phases t.save t.arbiter.op t.store := by
  cases he with
  | ports f => exact h
  | take p c f g =>
    by_cases hc : c = .saveAbort
    · subst hc
      exact portSaveAbort_phases p (s := s.withPorts f) h
    · obtain ⟨u, d, a, n, he, -⟩ := runPortCmd_state p c (s.withPorts f) hc
      rw [he]
      exact h
  | timer tm => exact h
  | grantPort p hgrant =>
    have hstart := startup_false_of_nextGrant hgrant
    rw [op_none_of_nextGrant hgrant] at h
    cases hu : (s.port p).unit with
    | none =>
      rw [grantPort_none hu]
      exact ⟨h.engine, .begin_untouched hstart rfl, h.valid⟩
    | some f =>
      rw [grantPort_some hu]
      exact runTableCmd_phases _ _ p f.cmd (s := requestDropped p s) hstart h
  | grantExpiry e n hgrant =>
    have hstart := startup_false_of_nextGrant hgrant
    rw [op_none_of_nextGrant hgrant] at h
    have hframe := (runExpiry_work e (expiryDropped e n s)).frame
    have hsave : (grantExpiry e (s.withPick n)).save = s.save := hframe.save
    have hstore : (grantExpiry e (s.withPick n)).store = s.store := hframe.store
    have hop : (grantExpiry e (s.withPick n)).arbiter.op =
        some (begun .timer none .plain (grantExpiry e (s.withPick n)).save) := rfl
    rw [hop, hsave, hstore]
    exact ⟨h.engine, .begin_untouched hstart rfl, h.valid⟩
  | grantSave r hgrant hr =>
    have hstart := startup_false_of_nextGrant hgrant
    rw [op_none_of_nextGrant hgrant] at h
    cases r with
    | copy => exact grantCopy_phases hstart h hr
    | finish => exact grantEnd_phases hstart h hr
  | complete =>
    cases ho : s.arbiter.op with
    | none => rw [completeOperation_none ho, ho]; rw [ho] at h; exact h
    | some op =>
      obtain ⟨f, hf⟩ := completeOperation_some ho
      rw [hf]
      rw [ho] at h
      exact runFinish_phases h
  | erase v => rw [(eraseComplete_only v s).arbiter]; exact eraseComplete_phases v h
  | program v => rw [(programComplete_only v s).arbiter]; exact programComplete_phases v h
  | header v => rw [(headerComplete_only v s).arbiter]; exact headerComplete_phases v h
  | reerase v => rw [(reeraseComplete_only v s).arbiter]; exact reeraseComplete_phases v h
  | resetFalls =>
    cases hr : s.nreset with
    | false => rw [resetFalls_of_low hr]; exact h
    | true => rw [resetFalls_of_high hr]; exact resetSave_phases _ _ rfl rfl rfl rfl
  | resetRises => exact resetSave_phases _ _ rfl rfl rfl rfl
  | startupLoad hs =>
    obtain ⟨hidle, hop⟩ := h.op.startup hs
    have hkeep : (startupLoad s).arbiter.op = none := hop
    rw [hkeep]
    refine ⟨?_, .none_of_started rfl, fun n hn => selectBank_valid hn⟩
    exact ⟨h.engine.idle, fun hne => absurd hidle hne, h.engine.work, h.engine.copyRequest,
      h.engine.endRequest, h.engine.copied⟩

/-- Settles O57: each operation and each work on the Store leaves the Save Engine in the next phase of its
order, and writes only the bank that is not active. -/
theorem activeBankKept : Obligations.ActiveBankKept := by
  intro s t hlaw hvalid h
  obtain ⟨q, he⟩ := effect_of_step h
  exact (phases_iff t).2 (effect_phases he ((phases_iff s).1 ⟨hlaw, hvalid⟩))

end Sys2Proof.Proofs

/-! PROOF. Transactions: a command discarded while its port executes (R157), every table command taken with
its parameters (R156, R161, R197), what the transaction of a command may touch, and the rows that may change
the Retained Store (R174). -/

namespace Sys2Proof.Proofs
open Sys2Proof.Machine

/-! ### A command discarded (R157) -/

/-- The transaction of a command on a port that is EXECUTING ends, and nothing more. -/
theorem commandTransaction_executing {p : Port} {s : State} (hreset : s.nreset = true)
    (hopen : linkOpen (s.port p).link = true) (hunit : (s.port p).unit.isSome = true) (b : Byte)
    (o : Option Opcode) (ps : List Byte) :
    commandTransaction p b o ps s = endedState p ps.length s := by
  cases hlink : (s.port p).link with
  | idle =>
    simp [commandTransaction, beginTransaction, hlink, hreset, endTransaction, shiftBytes, capture,
      setPort_setPort, hunit, endedState, sentByte, driven]
  | selected c =>
    simp [commandTransaction, beginTransaction, hlink, hreset, endTransaction, shiftBytes,
      setPort_setPort, hunit, endedState, sentByte]
  | answering => rw [hlink] at hopen; cases hopen
  | ignored => rw [hlink] at hopen; cases hopen

/-- Settles O5: the transaction of any opcode but a port read's comes to its end alone. -/
theorem discardWhileExecuting : Obligations.DiscardWhileExecuting := by
  intro p s ps hreset hopen hunit
  have hended (b : Byte) (o : Option Opcode) :=
    commandTransaction_executing hreset hopen hunit b o ps
  refine ⟨fun o => ?named, fun b hb => ?byOpcode⟩
  case named => rw [exec_rowOf, hended]; rfl
  case byOpcode =>
    have hrow : byteTransaction p b ps s = endedState p ps.length s := by
      rw [byteTransaction_of_not_portRead hb, hended]
    exact ⟨congrArg Host.Outcome.next hrow, congrArg Host.Outcome.next hrow⟩

/-! ### A table command taken (R156, R161) -/

section
variable {o : Opcode} {p : Port} {ps : List Byte} {s : State} {w : TableCmd} {res : Option Index}

/-- A command of the expected length whose path is a table operation waits for its grant. -/
theorem exec_taken (ht : takesAttached p s = true) (hlen : ps.length + 1 = expectedCount o)
    (hsup : supervisorOnly o = true → p = .P0)
    (hpath : commandPath (s.port p) o ps = .table w res) :
    exec (rowOf o p ps) s = .next (waitingState p (opcodeByte o) ps w res (sentByte p s) s) :=
  exec_table (takesAttached_takes ht) ((judge_of_takesAttached ht hlen hsup).trans hpath)

end

theorem sliceOf_lt {b : Byte} (h : b.toNat < 32) : sliceOf b = some ⟨b.toNat, h⟩ := dif_pos h

theorem handleOf_lt {b : Byte} (h : b.toNat < 16) : handleOf b = some ⟨b.toNat, h⟩ := dif_pos h

theorem pathOr_slice {b : Byte} (h : b.toNat < 32) (f : Slice → Path) :
    pathOr (sliceOf b) f = f ⟨b.toNat, h⟩ := by
  rw [sliceOf_lt h, pathOr]

theorem handlePath_lt {b : Byte} (h : b.toNat < 16) (u : PortUnit) (f : Index → TableCmd) :
    handlePath u b f =
      .table (f (resolveHandle u.win0 u.win1 ⟨b.toNat, h⟩))
        (some (resolveHandle u.win0 u.win1 ⟨b.toNat, h⟩)) := by
  rw [handlePath, handleOf_lt h, pathOr]

theorem findTag_path {a b : Byte} (u : PortUnit) (h : (a ++ b : Word) ≠ 0) :
    commandPath u .findTag [a, b] = .table (.findTag (a ++ b)) none := if_neg h

theorem draftView_path {a : Byte} (u : PortUnit) (h : a ≠ 0) (hle : a.toNat ≤ 16) :
    commandPath u .draftView [a] = .table (.draftView a) none :=
  if_neg fun hbad => hbad.elim h (Nat.not_lt.2 hle)

theorem attach_path {u : PortUnit} (h : u.session = .attached) :
    commandPath u .attach [] = .table (.sessionEnd true) none := if_pos h

theorem session_of_attached {p : Port} {s : State} (h : s.attached p = true) :
    (s.port p).session = .attached := by
  simpa [State.attached] using h

/-- `get_device_status` is issued in either session state (R159). -/
theorem judge_deviceStatus (p : Port) {s : State} (hstart : s.save.startup = false) :
    judge s p (some .getDeviceStatus) [] = .table .deviceStatus none := by
  simp [judge, hstart, expectedCount, allowedDetached, supervisorOnly, commandPath]

/-- Settles O7: each table command passes the tests of R159 and its path reads its parameters. -/
theorem tableCommandsAreTaken : Obligations.TableCommandsAreTaken := by
  intro p s htakes hstart
  refine ⟨exec_table (o := .getDeviceStatus) htakes (judge_deviceStatus p hstart), fun hatt => ?_⟩
  have ht : takesAttached p s = true := by
    simp only [takesAttached, htakes, hstart, hatt, Bool.not_false, Bool.and_self]
  have hnot {o : Opcode} (h : supervisorOnly o = false) : supervisorOnly o = true → p = .P0 :=
    fun h' => absurd (h.symm.trans h') Bool.false_ne_true
  refine ⟨exec_taken (o := .attach) ht rfl (hnot rfl) (attach_path (session_of_attached hatt)),
    exec_taken (o := .detach) ht rfl (hnot rfl) rfl,
    fun a b hab => exec_taken (o := .findTag) ht rfl (hnot rfl) (findTag_path _ hab),
    fun a => ⟨exec_taken (o := .readEntry) ht rfl (hnot rfl) rfl,
      exec_taken (o := .readValue) ht rfl (hnot rfl) rfl,
      exec_taken (o := .readAnchored) ht rfl (hnot rfl) rfl,
      exec_taken (o := .stageRetire) ht rfl (hnot rfl) rfl,
      exec_taken (o := .draftRemove) ht rfl (hnot rfl) rfl,
      exec_taken (o := .subscribe) ht rfl (hnot rfl) rfl,
      exec_taken (o := .unsubscribe) ht rfl (hnot rfl) rfl⟩,
    fun a h => ⟨exec_taken (o := .readSlice) ht rfl (hnot rfl) (pathOr_slice h _),
      exec_taken (o := .subscribeSlice) ht rfl (hnot rfl) (pathOr_slice h _)⟩,
    fun a h => ⟨exec_taken (o := .readHandle) ht rfl (hnot rfl) (handlePath_lt h _ _),
      exec_taken (o := .readAnchoredHandle) ht rfl (hnot rfl) (handlePath_lt h _ _),
      fun b c => exec_taken (o := .stageSetHandle) ht rfl (hnot rfl)
        (handlePath_lt h _ fun i => .stageSet i (b ++ c))⟩,
    fun a b c => exec_taken (o := .stageSet) ht rfl (hnot rfl) rfl,
    fun ps hlen => exec_taken (o := .stageDefine) ht (congrArg (· + 1) hlen) (hnot rfl) rfl,
    fun a b c d e m v w => exec_taken (o := .stageRebound) ht rfl (hnot rfl) rfl,
    fun a h hle => exec_taken (o := .draftView) ht rfl (hnot rfl) (draftView_path _ h hle),
    exec_taken (o := .anchorSet) ht rfl (hnot rfl) rfl,
    exec_taken (o := .anchorDrop) ht rfl (hnot rfl) rfl,
    exec_taken (o := .draftDiscard) ht rfl (hnot rfl) rfl,
    exec_taken (o := .release) ht rfl (hnot rfl) rfl,
    exec_taken (o := .unsubscribeAll) ht rfl (hnot rfl) rfl,
    exec_taken (o := .nextChanged) ht rfl (hnot rfl) rfl,
    exec_taken (o := .saveStart) ht rfl (hnot rfl) rfl,
    fun hp => ⟨exec_taken (o := .tableWipe) ht rfl (fun _ => hp) rfl,
      exec_taken (o := .tableReload) ht rfl (fun _ => hp) rfl⟩⟩

/-! ### What a transaction may touch -/

/-- Nothing changes but what is port p's own, and the Save Engine where `abort` allows it. -/
structure OwnPortOnly (p : Port) (abort : Prop) (s t : State) : Prop where
  table : t.table = s.table
  arbiter : t.arbiter = s.arbiter
  store : t.store = s.store
  nreset : t.nreset = s.nreset
  freePick : t.freePick = s.freePick
  draftCount : t.timer.draftCount = s.timer.draftCount
  anchorCount : t.timer.anchorCount = s.timer.anchorCount
  expiries : t.timer.expiries = s.timer.expiries
  save : ¬ abort → t.save = s.save
  others : ∀ q, q ≠ p → t.port q = s.port q ∧ t.notice q = s.notice q ∧
    t.timer.draftLife.get q = s.timer.draftLife.get q ∧
    t.timer.anchorLife.get q = s.timer.anchorLife.get q

namespace OwnPortOnly

variable {p : Port} {abort : Prop} {s t u : State}

theorem refl (p : Port) (abort : Prop) (s : State) : OwnPortOnly p abort s s :=
  ⟨rfl, rfl, rfl, rfl, rfl, rfl, rfl, rfl, fun _ => rfl, fun _ _ => ⟨rfl, rfl, rfl, rfl⟩⟩

theorem trans (h : OwnPortOnly p abort s t) (h' : OwnPortOnly p abort t u) :
    OwnPortOnly p abort s u := by
  refine ⟨h'.table.trans h.table, h'.arbiter.trans h.arbiter, h'.store.trans h.store,
    h'.nreset.trans h.nreset, h'.freePick.trans h.freePick, h'.draftCount.trans h.draftCount,
    h'.anchorCount.trans h.anchorCount, h'.expiries.trans h.expiries,
    fun ha => (h'.save ha).trans (h.save ha), fun q hq => ?_⟩
  obtain ⟨hport, hnotice, hdraft, hanchor⟩ := h.others q hq
  obtain ⟨hport', hnotice', hdraft', hanchor'⟩ := h'.others q hq
  exact ⟨hport'.trans hport, hnotice'.trans hnotice, hdraft'.trans hdraft,
    hanchor'.trans hanchor⟩

theorem weaken {b : Prop} (h : OwnPortOnly p abort s t) (hb : abort → b) : OwnPortOnly p b s t :=
  { h with save := fun hne => h.save fun ha => hne (hb ha) }

theorem setPort (p : Port) (abort : Prop) (s : State) (u : PortUnit) :
    OwnPortOnly p abort s (s.setPort p u) :=
  ⟨rfl, rfl, rfl, rfl, rfl, rfl, rfl, rfl, fun _ => rfl,
    fun q hq => ⟨setPort_port_ne s p q u hq, rfl, rfl, rfl⟩⟩

theorem setNotice (p : Port) (abort : Prop) (s : State) (n : NoticeUnit) :
    OwnPortOnly p abort s (s.setNotice p n) :=
  ⟨rfl, rfl, rfl, rfl, rfl, rfl, rfl, rfl, fun _ => rfl,
    fun q hq => ⟨rfl, by simp [State.notice, State.setNotice, State.withNotices, hq],
      rfl, rfl⟩⟩

theorem setLives (p : Port) (abort : Prop) (s : State) (d a : Byte) :
    OwnPortOnly p abort s (setLives s p d a) :=
  ⟨rfl, rfl, rfl, rfl, rfl, rfl, rfl, rfl, fun _ => rfl, fun q hq =>
    ⟨rfl, rfl, by simp [Machine.setLives, State.withTimer, hq],
      by simp [Machine.setLives, State.withTimer, hq]⟩⟩

end OwnPortOnly

theorem runPortCmd_own (p : Port) (c : PortCmd) (s : State) :
    OwnPortOnly p (c = .saveAbort) s (runPortCmd p c s).1 := by
  by_cases hc : c = .saveAbort
  · subst hc
    rcases portSaveAbort_state p s with h | ⟨h, -⟩ <;> rw [runPortCmd, h]
    · exact .refl p _ s
    · exact ⟨rfl, rfl, rfl, rfl, rfl, rfl, rfl, rfl, fun hne => absurd rfl hne,
        fun _ _ => ⟨rfl, rfl, rfl, rfl⟩⟩
  · obtain ⟨u, d, a, n, h, -⟩ := runPortCmd_state p c s hc
    rw [h]
    exact ((OwnPortOnly.setLives p _ s d a).trans (.setPort p _ _ u)).trans (.setNotice p _ _ n)

/-- `save_abort` alone takes its path. -/
theorem commandPath_saveAbort {u : PortUnit} {o : Opcode} {ps : List Byte}
    (h : commandPath u o ps = .atTake .saveAbort) : o = .saveAbort := by
  have hpath {α : Type} {x : Option α} {f : α → Path} (hf : ∀ a, f a ≠ .atTake .saveAbort) :
      pathOr x f ≠ .atTake .saveAbort := by
    cases x with
    | none => exact fun h => nomatch h
    | some a => exact hf a
  cases o with
  | saveAbort => rfl
  | attach | findTag | draftView =>
    simp only [commandPath] at h
    split at h <;> cases h
  | setWindows =>
    simp only [commandPath] at h
    split at h <;> cases h
  | readSlice | subscribeSlice => exact absurd h (hpath fun _ h => nomatch h)
  | readHandle | readAnchoredHandle | stageSetHandle => exact absurd h (hpath fun _ h => nomatch h)
  | setNoticeEnables | noticeDone | noticeClear => exact absurd h (hpath fun _ h => nomatch h)
  | _ => cases h

theorem judge_saveAbort {s : State} {p : Port} {o : Option Opcode} {ps : List Byte}
    (h : judge s p o ps = .atTake .saveAbort) : o = some .saveAbort := by
  unfold judge at h
  split at h
  · cases h
  · split at h
    · cases h
    · split at h
      · cases h
      · split at h
        · cases h
        · split at h
          · cases h
          · exact congrArg some (commandPath_saveAbort h)

theorem beginTransaction_own (p : Port) (abort : Prop) (s : State) :
    OwnPortOnly p abort s (beginTransaction p s) := by
  unfold beginTransaction
  split
  · split <;> exact .setPort p _ s _
  · exact .refl p _ s

theorem endTransaction_own (p : Port) (abort : Prop) (s : State) :
    OwnPortOnly p abort s (endTransaction p s) := by
  unfold endTransaction
  split
  · exact .refl p _ s
  all_goals exact .setPort p _ s _

theorem takeCommand_own (p : Port) (b : Byte) (o : Option Opcode) (ps : List Byte) (s : State) :
    OwnPortOnly p (o = some .saveAbort) s (takeCommand p b o ps s) := by
  unfold takeCommand
  split
  next a _ => exact (OwnPortOnly.setPort p _ s _).trans (.setPort p _ _ _)
  next c hj =>
    have hrun := (runPortCmd_own p c
      (s.setPort p { s.port p with seq := (s.port p).seq + 1, resultValid := false })).weaken
      (b := o = some .saveAbort) fun hc => judge_saveAbort (hc ▸ hj)
    exact ((OwnPortOnly.setPort p _ s _).trans hrun).trans (.setPort p _ _ _)
  next c r _ => exact (OwnPortOnly.setPort p _ s _).trans (.setPort p _ _ _)

theorem commandTransaction_own (p : Port) (b : Byte) (o : Option Opcode) (ps : List Byte)
    (s : State) : OwnPortOnly p (o = some .saveAbort) s (commandTransaction p b o ps s) := by
  have hbegin := beginTransaction_own p (o = some .saveAbort) s
  simp only [commandTransaction]
  split
  next c _ =>
    have hended := (hbegin.trans (.setPort p _ _ _)).trans (endTransaction_own p _
      (shiftBytes p (c.statusByte :: List.replicate ps.length 0) (beginTransaction p s)))
    split
    · exact hended
    · exact hended.trans (takeCommand_own p b o ps _)
  next => exact hbegin.trans (endTransaction_own p _ _)

/-- Settles O8: the link is port p's own, and so is every command answered at its take but an accepted
abort. -/
theorem takeTouchesOnlyOwnPort : Obligations.TakeTouchesOnlyOwnPort := by
  intro o p ps s
  obtain ⟨htable, harbiter, hstore, hnreset, hpick, hdraft, hanchor, hexpiries, hsave, hothers⟩ :=
    commandTransaction_own p (opcodeByte o) (some o) ps s
  exact ⟨_, exec_rowOf o p ps s, htable, harbiter, hstore, hnreset, hpick, hdraft, hanchor, hexpiries,
    fun ho => hsave fun h => ho (Option.some.inj h), hothers⟩

/-! ### The rows that may change the Retained Store (R174) -/

theorem portRead_store (p : Port) (answer : Captured → List Byte) (extra : List Byte) (s : State) :
    (portRead p answer extra s).store = s.store := by
  obtain ⟨f, hf⟩ := portRead_ports p answer extra s
  rw [hf]
  rfl

theorem endTransaction_store (p : Port) (s : State) : (endTransaction p s).store = s.store :=
  (endTransaction_own p False s).store

theorem byteTransaction_store (p : Port) (b : Byte) (ps : List Byte) (s : State) :
    (byteTransaction p b ps s).store = s.store := by
  unfold byteTransaction
  split
  · rw [endTransaction_store, portRead_store]
  · split
    · rw [endTransaction_store, portRead_store]
    · exact (commandTransaction_own p b _ ps s).store

theorem grantPort_store (p : Port) (s : State) : (grantPort p s).store = s.store := by
  cases hu : (s.port p).unit with
  | none => rw [grantPort_none hu]; rfl
  | some f => rw [grantPort_some hu]; exact (runTableCmd_frame p f.cmd (requestDropped p s)).store

theorem grantExpiry_store (e : Expiry) (s : State) : (grantExpiry e s).store = s.store :=
  (runExpiry_work e (s.withTimer { s.timer with expiries := dropExpiry e s.timer.expiries })).frame.store

theorem grantSave_store (r : SaveRequest) (s : State) : (grantSave r s).store = s.store := by
  cases r with
  | copy => rfl
  | finish => exact (opSaveEnd_frame (s.withSave { s.save with request := none })).store

theorem grantNext_store (s : State) : (grantNext s).store = s.store := by
  unfold grantNext
  split
  · rfl
  · exact grantPort_store _ s
  · unfold grantTimer
    split
    · rfl
    · split
      · exact grantExpiry_store _ _
      · rfl
  · split
    · exact grantSave_store _ s
    · rfl

theorem postedExpiries_store (es : List Expiry) (s : State) (tm : LifetimeTimer) (b : Bool) :
    (if b then postExpiries es (s.withTimer tm) else s).store = s.store := by
  split
  · obtain ⟨tm', h⟩ := postExpiries_timer es s tm
    rw [h]
    rfl
  · rfl

theorem runFinish_store {f : Finish} (hf : ∀ p g, f ≠ .saveStart p g) (s : State) :
    (runFinish f s).store = s.store := by
  cases f with
  | saveStart p g => exact absurd rfl (hf p g)
  | session p re => cases re <;> rfl
  | wipe ends => cases ends <;> rfl
  | copy v =>
    obtain ⟨e, he⟩ := finishCopy_state v s
    rw [runFinish, he]
    rfl
  | plain | reload | saveEnd => rfl

theorem completeOperation_store {s : State} (hs : ∀ p g, ¬ finishing s (.saveStart p g)) :
    (completeOperation s).store = s.store := by
  cases ho : s.arbiter.op with
  | none => rw [completeOperation_none ho]
  | some op =>
    obtain ⟨f, hf⟩ := completeOperation_some ho
    rw [hf]
    refine runFinish_store (fun p g hfin => hs p g ?_) s
    rw [finishing, ho, Option.map_some, hfin]

theorem ite_store {c : Prop} [Decidable c] {s t : State} (h : c → t.store = s.store) :
    (if c then t else s).store = s.store := by
  split
  next hc => exact h hc
  next => rfl

/-- Settles O60: row by row. -/
theorem storeChangesOnlyByItsWork : Obligations.StoreChangesOnlyByItsWork := by
  intro c s t h hne
  have hkept {u : State} (hu : u.store = s.store) : exec c s ≠ .next u := fun hc => by
    rw [hc] at h
    cases h
    exact hne hu
  cases c
  case saveEraseComplete v => exact .inl ⟨v, rfl⟩
  case recordProgramComplete v => exact .inr (.inl ⟨v, rfl⟩)
  case headerWriteComplete v => exact .inr (.inr (.inl ⟨v, rfl⟩))
  case headerReeraseComplete v => exact .inr (.inr (.inr (.inl ⟨v, rfl⟩)))
  case tableOperationCompletion =>
    refine .inr (.inr (.inr (.inr ⟨rfl, ?_⟩)))
    by_contra hno
    exact hkept (completeOperation_store fun p g hf => hno ⟨p, g, hf⟩) rfl
  case ncsFall p => exact absurd rfl (hkept (beginTransaction_own p False s).store)
  case readStatus p extra => exact absurd rfl (hkept (portRead_store p Captured.statusAnswer extra s))
  case readResult p extra => exact absurd rfl (hkept (portRead_store p Captured.resultAnswer extra s))
  case transactionEnd p => exact absurd rfl (hkept (endTransaction_store p s))
  case unknownOpcode p b ps => exact absurd rfl (hkept (byteTransaction_store p b ps s))
  case commandDiscard p b ps => exact absurd rfl (hkept (byteTransaction_store p b ps s))
  case tableOperationGrant => exact absurd rfl (hkept (grantNext_store s))
  case timeBaseStep => exact absurd rfl (hkept (postedExpiries_store _ s _ _))
  case draftCountdownElapsed p => exact absurd rfl (hkept (postedExpiries_store _ s _ _))
  case anchorCountdownElapsed p => exact absurd rfl (hkept (postedExpiries_store _ s _ _))
  case draftExpiry p => exact absurd rfl (hkept (ite_store fun _ => grantExpiry_store (.draft p) s))
  case anchorExpiry p => exact absurd rfl (hkept (ite_store fun _ => grantExpiry_store (.anchor p) s))
  case sessionEnd p => exact absurd rfl (hkept (ite_store fun _ => grantPort_store p s))
  case saveCopy => exact absurd rfl (hkept (ite_store fun _ => grantSave_store .copy s))
  case saveEnd => exact absurd rfl (hkept (ite_store fun _ => grantSave_store .finish s))
  case nresetFall => exact absurd rfl (hkept (resetFalls_store s))
  case nresetRise => exact absurd rfl (hkept (u := resetRises s) (resetFalls_store s))
  case startupLoad => exact absurd rfl (hkept (ite_store fun _ => rfl))
  all_goals exact absurd rfl (hkept (commandTransaction_own _ _ _ _ s).store)

end Sys2Proof.Proofs

/-! PROOF. Steps and links (R151 to R157): the command a step runs, the rows of a link, and the bits of the
status byte (R198). -/

namespace Sys2Proof.Proofs
open Sys2Proof.Machine

/-- Settles O1: by the two cases of the queue. -/
theorem stepRunsFrontCommand : Obligations.StepRunsFrontCommand := by
  refine ⟨fun c rest s h => ?_, fun s h => ?_⟩ <;> rw [step, h]

/-! ### The bits of the status byte -/

/-- One bit of a mark that stands where a condition holds. -/
theorem getLsbD_mark (c : Prop) [Decidable c] (m : Byte) (k : Nat) :
    (if c then m else 0).getLsbD k = (decide c && m.getLsbD k) := by
  split
  next h => simp [h]
  next h => simp [h]

/-- A bit of the status byte: each of its marks, where the mark has that bit. -/
theorem statusByte_getLsbD (s : State) (p : Port) (k : Nat) :
    (statusByte s p).getLsbD k =
      ((((((decide (s.save.device = .loading) && (0x80 : Byte).getLsbD k ||
        decide ((s.port p).session = .attached) && (0x40 : Byte).getLsbD k) ||
        decide ((s.port p).unit.isSome = true) && (0x20 : Byte).getLsbD k) ||
        decide ((s.port p).resultValid = true) && (0x10 : Byte).getLsbD k) ||
        decide ((s.notice p).gate = .raised) && (0x08 : Byte).getLsbD k) ||
        decide ((s.notice p).flags ≠ 0) && (0x04 : Byte).getLsbD k) ||
        (0x02 : Byte).getLsbD k) := by
  simp only [statusByte, BitVec.getLsbD_or, getLsbD_mark]

/-- Settles O4: each bit belongs to one mark. -/
theorem statusByteBits : Obligations.StatusByteBits := by
  intro p s
  simp only [statusByte_getLsbD]
  refine ⟨?loading, ?attached, ?executing, ?valid, ?attn, ?flags, ?one, ?zero⟩
  case loading => simp [beq_eq_decide]
  case attached => simp [State.attached, beq_eq_decide]
  case executing => simp
  case valid => simp
  case attn => simp [nattnLow, beq_eq_decide]
  case flags => simp [bne, beq_eq_decide]
  case one => simp
  case zero => simp

/-! ### The rows of a link -/

/-- The fall of nCS with nRESET high (R151, R153). -/
theorem beginTransaction_idle {p : Port} {s : State} (hr : s.nreset = true)
    (hl : (s.port p).link = .idle) :
    beginTransaction p s = s.setPort p { s.port p with link := .selected (capture s p), sdo := [] } := by
  simp only [beginTransaction, hl, hr, if_true]

/-- Without a fall there is none (log 2). -/
theorem beginTransaction_selected {p : Port} {s : State} {c : Captured}
    (hl : (s.port p).link = .selected c) : beginTransaction p s = s := by
  simp only [beginTransaction, hl]

theorem portRead_selected {p : Port} {s : State} {c : Captured} (hl : (s.port p).link = .selected c)
    (answer : Captured → List Byte) (extra : List Byte) :
    portRead p answer extra s = s.setPort p { s.port p with
      link := .answering
      sdo := driven (s.port p) (c.statusByte :: shiftOut (answer c) extra.length) } := by
  simp only [portRead, beginTransaction_selected hl, hl]

theorem portRead_idle {p : Port} {s : State} (hr : s.nreset = true) (hl : (s.port p).link = .idle)
    (answer : Captured → List Byte) (extra : List Byte) :
    portRead p answer extra s = s.setPort p { s.port p with
      link := .answering
      sdo := driven (s.port p) (statusByte s p :: shiftOut (answer (capture s p)) extra.length) } := by
  simp only [portRead, beginTransaction_idle hr hl, setPort_port, setPort_setPort]
  rfl

theorem endTransaction_idle {p : Port} {s : State} (hl : (s.port p).link = .idle) :
    endTransaction p s = s := by
  simp only [endTransaction, hl]

/-- The rise of nCS (R151, R164). -/
theorem endTransaction_low {p : Port} {s : State} (hl : (s.port p).link ≠ .idle) :
    endTransaction p s = s.setPort p { s.port p with
      link := .idle, sdoHeld := if s.nreset then false else (s.port p).sdoHeld } := by
  have hheld : ((s.port p).sdoHeld && !s.nreset) = if s.nreset then false else (s.port p).sdoHeld := by
    cases s.nreset <;> simp
  unfold endTransaction
  split
  next h => exact absurd h hl
  all_goals rw [hheld]

theorem shiftOut_length (answer : List Byte) (n : Nat) : (shiftOut answer n).length = n := by
  simp only [shiftOut, List.length_append, List.length_take, List.length_replicate]
  omega

/-- Each byte shifted out is the answer's, or the fill beyond its end. -/
theorem shiftOut_getD {answer : List Byte} {n k : Nat} (hk : k < n) :
    (shiftOut answer n).getD k 0 = answer.getD k 0 := by
  simp only [shiftOut, List.getD_eq_getElem?_getD]
  by_cases h : k < answer.length
  · rw [List.getElem?_append_left (by simp; omega), List.getElem?_take_of_lt hk]
  · rw [List.getElem?_append_right (by simp; omega), List.getElem?_replicate,
      List.getElem?_eq_none (by omega)]
    split <;> rfl

/-- A fall of nCS as a row of its own, and then the command's transaction. -/
theorem commandTransaction_after_fall {p : Port} {s : State} (hr : s.nreset = true)
    (hl : (s.port p).link = .idle) (b : Byte) (o : Option Opcode) (ps : List Byte) :
    commandTransaction p b o ps (beginTransaction p s) = commandTransaction p b o ps s := by
  have hsel : ((beginTransaction p s).port p).link = .selected (capture s p) := by
    rw [beginTransaction_idle hr hl, setPort_port]
  simp only [commandTransaction, beginTransaction_selected hsel]

/-- Settles O3: the rows of the link, each by the state it finds the link in. -/
theorem linkRows : Obligations.LinkRows := by
  refine ⟨⟨fun p s hr hl => ⟨?fall, fun extra => ⟨?status, ?result⟩⟩, fun p s c extra hl => ⟨?_, ?_⟩,
    fun p s => ⟨fun hl => ?rise, fun hl => ?noRise⟩, fun u bytes => rfl,
    fun answer n k => ⟨shiftOut_length answer n, shiftOut_getD⟩⟩, fun o p ps s hr hl => ?folded⟩
  case fall => exact congrArg Host.Outcome.next (beginTransaction_idle hr hl)
  case status => exact congrArg Host.Outcome.next (portRead_idle hr hl _ _)
  case result => exact congrArg Host.Outcome.next (portRead_idle hr hl _ _)
  case rise => exact congrArg Host.Outcome.next (endTransaction_low hl)
  case noRise => exact congrArg Host.Outcome.next (endTransaction_idle hl)
  case folded =>
    show runRows [rowOf o p ps] (beginTransaction p s) = _
    simp only [runRows, exec_rowOf, commandTransaction_after_fall hr hl]
  all_goals exact congrArg Host.Outcome.next (portRead_selected hl _ _)

end Sys2Proof.Proofs

/-! PROOF. Chip reset and start-up (R26, R164, R175, R189, R190): the values after a reset and the laws they
satisfy, the two edges of nRESET, and the start-up load. -/

namespace Sys2Proof.Proofs
open Sys2Proof.Machine

/-! ### The state after reset -/

theorem resetTable_claims : ClaimsAgree resetTable.entries resetTable.drafts := loaded_claims []

theorem reset_gateLaw : gateLaw State.reset := by
  intro p
  have hn : State.reset.notice p = clearNotice := by cases p <;> rfl
  rw [hn]
  exact ⟨(fun h => nomatch h), fun h => nomatch h⟩

theorem reset_changedLaw : changedLaw State.reset := by
  intro p
  have hn : State.reset.notice p = clearNotice := by cases p <;> rfl
  rw [hn]
  exact .nil

theorem reset_rangeLaw : rangeLaw State.reset := by
  refine (rangeLaw_iff _).2 ⟨rangeLaw_loaded (im := []) (fun _ h => nomatch h), fun n r hr => ?_,
    (fun _ h => nomatch h), fun _ h => nomatch h⟩
  cases n <;> cases hr

/-- Settles O51: the values by computation; the laws as after a load of nothing. -/
theorem resetStateLaws : Obligations.ResetStateLaws := by
  obtain ⟨hsave, hactive⟩ := (phases_iff State.reset).2
    (resetSave_phases State.reset.save State.reset.store rfl rfl rfl rfl)
  refine ⟨⟨rfl, resetTable_get, fun p => ?_, rfl, rfl, rfl, rfl, rfl, rfl, rfl⟩, reset_gateLaw,
    reset_changedLaw, fun _ => rfl, (claimLaw_iff _).2 resetTable_claims,
    (generationLaw_iff _).2 (genLaw_loaded []), SaveAnchorWithin.of_none _ _, reset_rangeLaw,
    tableLaw_loaded (rs := []) ⟨.nil, .nil, fun _ h => nomatch h⟩, hsave, hactive⟩
  cases p <;> exact ⟨rfl, rfl, rfl, rfl⟩

/-! ### The edges of nRESET (R164, R192) -/

/-- The values of a chip reset, with the Retained Store and the queue as they were. -/
def Cleared (s t : State) : Prop :=
  (∀ p, (t.port p).session = .detached ∧ (t.port p).win0 = 0 ∧ (t.port p).win1 = 1 ∧
    (t.port p).unit = none ∧ (t.port p).request = false ∧ (t.port p).result = none ∧
    (t.port p).resultValid = false ∧ (t.port p).seq = 0 ∧
    t.timer.draftLife.get p = 100 ∧ t.timer.anchorLife.get p = 50 ∧
    t.timer.draftCount.get p = .stopped ∧ t.timer.anchorCount.get p = .stopped ∧
    t.notice p = { flags := 0, enables := 0, gate := .disarmed, changed := [] } ∧
    nattnLow (t.notice p) = false ∧ t.draft p = [] ∧ t.anchor p = none) ∧
  (∀ i, t.entry i = { content := .vacant, claim := none, waiters := noPorts } ∧
    t.table.dependents.get i = []) ∧
  t.table.tagIndex = [] ∧ t.table.g = 0 ∧ t.table.saveAnchor = none ∧ t.timer.expiries = [] ∧
  t.arbiter = { searchStart := .pu .P0, op := none } ∧
  t.save.record = { state := .idle, starter := none, target := none, gs := none, nextIndex := 0,
                    copied := 0, endPending := none, lastOutcome := none } ∧
  t.save.request = none ∧ t.save.work = .none ∧ t.store = s.store ∧ t.pending = s.pending

theorem resetTable_dependents_get (i : Index) : resetTable.dependents.get i = [] := by
  simp [resetTable, Vector.get_eq_getElem]

/-- Every unit in its reset state, whatever nRESET, the device state and the start-up mark. -/
theorem cleared_startState (s : State) (links : PerPort Link) (held : PerPort Bool) (k : Nat) (b m : Bool)
    (d : DeviceState) :
    Cleared s (((startState links held s.store k s.pending).withNreset b).withSave
      { resetSave with device := d, startup := m }) := by
  refine ⟨fun p => ?_, fun i => ⟨resetTable_get i, resetTable_dependents_get i⟩, rfl, rfl, rfl, rfl, rfl,
    rfl, rfl, rfl, rfl, rfl⟩
  cases p <;> exact ⟨rfl, rfl, rfl, rfl, rfl, rfl, rfl, rfl, rfl, rfl, rfl, rfl, rfl, rfl, rfl, rfl⟩

theorem cleared_holdInReset (s : State) : Cleared s (holdInReset s) :=
  cleared_startState s _ _ s.freePick false false .ready

theorem cleared_resetRises (s : State) : Cleared s (resetRises s) := by
  have h := cleared_startState s (.make fun p => ((resetFalls s).port p).link)
    (.make fun p => ((resetFalls s).port p).sdoHeld) (resetFalls s).freePick true true .loading
  rw [← resetFalls_store s, ← resetFalls_pending s] at h
  obtain ⟨hports, hentries, htags, hg, hanchor, hexp, harb, hrec, hreq, hwork, hstore, hpend⟩ := h
  exact ⟨hports, hentries, htags, hg, hanchor, hexp, harb, hrec, hreq, hwork,
    resetFalls_store s, resetFalls_pending s⟩

/-- The link of a port, its shifted bytes and its hold on SDO, while nRESET is low. -/
theorem holdInReset_port (s : State) (p : Port) :
    ((holdInReset s).port p).sdo = [] ∧
      ((holdInReset s).port p).link = abandonLink (s.port p).link ∧
      ((holdInReset s).port p).sdoHeld = heldAtFall (s.port p) := by
  cases p <;> exact ⟨rfl, rfl, rfl⟩

theorem resetRises_port (s : State) (p : Port) :
    ((resetRises s).port p).sdo = [] ∧
      ((resetRises s).port p).link = ((resetFalls s).port p).link ∧
      ((resetRises s).port p).sdoHeld = ((resetFalls s).port p).sdoHeld := by
  cases p <;> exact ⟨rfl, rfl, rfl⟩

theorem abandonLink_of_low {l : Link} (h : l ≠ .idle) : abandonLink l = .ignored := by
  cases l with
  | idle => exact absurd rfl h
  | selected c | answering | ignored => rfl

/-- The link and the hold on SDO as nRESET falls, by whether nCS is high. -/
theorem holdInReset_idle {s : State} {p : Port} (h : (s.port p).link = .idle) :
    ((holdInReset s).port p).link = .idle ∧
      ((holdInReset s).port p).sdoHeld = (s.port p).sdoHeld := by
  obtain ⟨-, hlink, hheld⟩ := holdInReset_port s p
  rw [hlink, hheld, heldAtFall, h]
  exact ⟨rfl, Bool.or_false _⟩

theorem holdInReset_low {s : State} {p : Port} (h : (s.port p).link ≠ .idle) :
    ((holdInReset s).port p).link = .ignored ∧ ((holdInReset s).port p).sdoHeld = true := by
  obtain ⟨-, hlink, hheld⟩ := holdInReset_port s p
  rw [hlink, hheld, heldAtFall, abandonLink_of_low h]
  exact ⟨rfl, by simp [h]⟩

/-- An ignored transaction is not interpreted: its end is a rise of nCS (R164). -/
theorem commandTransaction_ignored {p : Port} {s : State} (h : (s.port p).link = .ignored) (b : Byte)
    (o : Option Opcode) (ps : List Byte) : commandTransaction p b o ps s = endTransaction p s := by
  have hbegin : beginTransaction p s = s := by simp only [beginTransaction, h]
  simp only [commandTransaction, hbegin, h]

/-- Settles O50: both edges reset every unit; the links by what nCS is at the fall. -/
theorem chipResetRows : Obligations.ChipResetRows := by
  refine ⟨fun s hr => ⟨holdInReset s, ?fall, cleared_holdInReset s, rfl, fun p => ?fallLinks⟩,
    fun s hr => congrArg Host.Outcome.next (resetFalls_of_low hr),
    fun s => ⟨resetRises s, rfl, cleared_resetRises s, rfl, rfl, rfl, fun p => ?riseLinks⟩,
    fun p s hr hl => ?heldFall, fun p s o ps hl => ?ignored⟩
  case fall => exact congrArg Host.Outcome.next (resetFalls_of_high hr)
  case fallLinks =>
    exact ⟨(holdInReset_port s p).1, holdInReset_idle, holdInReset_low⟩
  case riseLinks =>
    obtain ⟨hsdo, hlink, hheld⟩ := resetRises_port s p
    rw [hlink, hheld]
    refine ⟨hsdo, ?_, fun hr hl => ?_⟩
    · rintro (hr | hl)
      · rw [resetFalls_of_low hr]
        exact ⟨rfl, rfl⟩
      · cases hr : s.nreset with
        | false =>
          rw [resetFalls_of_low hr]
          exact ⟨rfl, rfl⟩
        | true =>
          rw [resetFalls_of_high hr, hl]
          exact holdInReset_idle hl
    · rw [resetFalls_of_high hr]
      exact holdInReset_low hl
  case heldFall =>
    refine congrArg Host.Outcome.next ?_
    simp only [beginTransaction, hl, hr]
    rfl
  case ignored =>
    rw [exec_rowOf, commandTransaction_ignored hl,
      endTransaction_low (fun h => nomatch hl.symm.trans h)]

/-! ### The start-up load (R189, R190) -/

theorem loadImage_reset {s : State} (h : s.table = resetTable) :
    (loadImage s).table = (imageRecords (loadImage s)).foldl loadRecord resetTable := by
  rw [← h]
  rfl

theorem selectBank_both {st : RetainedStore} (ha : bankValid st.a = true) (hb : bankValid st.b = true) :
    selectBank st = if st.b.sequence ≤ st.a.sequence then some .A else some .B := by
  simp only [selectBank, ha, hb]
  by_cases h : st.a.sequence < st.b.sequence
  · rw [if_pos h, if_neg (BitVec.not_le.2 h)]
  · rw [if_neg h, if_pos (BitVec.not_lt.1 h)]

/-- Settles O52: the row by its condition, the load record by record, the choice by the two banks'
validity. -/
theorem imageLoaded : Obligations.ImageLoaded := by
  refine ⟨fun s => ⟨fun hr hs => ?row, fun hno => ?noRow⟩, fun s htable hindex => ?load,
    fun st => ⟨fun ha hb => ?_, fun ha hb => ?_, selectBank_both, fun ha hb => ?_, fun b hb => ?_,
      fun b sequence gs n hn => bankValid_writeHeader b hn⟩⟩
  case row => exact congrArg Host.Outcome.next (if_pos (by rw [hr, hs]; rfl))
  case noRow =>
    refine congrArg Host.Outcome.next (if_neg ?_)
    rcases hno with h | h <;> simp [h]
  case load =>
    have hload := loadImage_reset htable
    obtain ⟨hdrafts, hanchors, hsaveAnchor, hg⟩ :=
      loadRecords_frame (imageRecords (loadImage s)) resetTable
    refine ⟨rfl, rfl, fun r hr => ?_, fun i hi => ?_, fun e d => ?_, fun htag tag i => ?_, ?_,
      fun q => ⟨?_, ?_⟩, ?_⟩
    · rw [State.entry, hload, loadRecords_get_of_mem hindex hr]
      rfl
    · rw [State.entry, hload, loadRecords_get_of_not_mem hi, resetTable_get]
      rfl
    · rw [hload, mem_loadRecords_dependents]
      exact or_iff_left (resetTable_dependents e d)
    · rw [hload]
      rcases loadRecords_lookupTag (rs := imageRecords (loadImage s)) resetTable tag with
        ⟨r, hr, rfl, hlook⟩ | ⟨hno, hlook⟩ <;> rw [hlook]
      · constructor
        · intro hi
          cases hi
          exact ⟨r, hr, rfl, rfl⟩
        · rintro ⟨q, hq, hqt, rfl⟩
          rw [List.inj_on_of_nodup_map htag hq hr hqt]
      · exact ⟨(fun h => nomatch h), fun ⟨r, hr, ht, _⟩ => absurd ht (hno r hr)⟩
    · rw [hload]; exact hg
    · rw [State.draft, hload, hdrafts]; exact resetTable_draft q
    · rw [State.anchor, hload, hanchors]; cases q <;> rfl
    · rw [hload]; exact hsaveAnchor
  · rw [selectBank, ha, hb]
  · rw [selectBank, ha, hb]
  · rw [selectBank, ha, hb]
  · simp only [bankValid, Bool.and_eq_true, decide_eq_true_eq] at hb
    obtain ⟨⟨hmarker, hcount⟩, -⟩ := hb
    exact ⟨hmarker, hcount⟩

end Sys2Proof.Proofs

/-! PROOF. The arbiter and the Lifetime Timer (R20 to R22, R49, R50, R80, R82, R162): the rotation of the
grants, a grant and a completion as whole states, the countdowns and the expiries. -/

namespace Sys2Proof.Proofs
open Sys2Proof.Machine

/-! ### The rotation (R21) -/

/-- The search visits the six requesters one after another, each the next of the one before. -/
theorem searchOrder_eq (start : Requester) :
    searchOrder start = (List.range 6).map fun k => nextRequester^[k] start := by
  cases start with
  | pu p => cases p <;> rfl
  | timer => rfl
  | save => rfl

theorem mem_searchOrder (start r : Requester) : r ∈ searchOrder start := by
  have hring : ∀ r, r ∈ requesterRing := by
    intro r
    cases r with
    | pu p => cases p <;> decide
    | timer => decide
    | save => decide
  rw [searchOrder, List.mem_append, or_comm, ← List.mem_append, List.take_append_drop]
  exact hring r

theorem mayGrant_iff (s : State) : mayGrant s = true ↔
    s.nreset = true ∧ s.save.startup = false ∧ s.arbiter.op = none := by
  simp [mayGrant, and_assoc]

theorem nextGrant_eq_some {s : State} (h : mayGrant s = true) (r : Requester) :
    nextGrant s = some r ↔ ∃ k, k < 6 ∧ r = nextRequester^[k] s.arbiter.searchStart ∧
      holdsRequest s r = true ∧
      ∀ j, j < k → holdsRequest s (nextRequester^[j] s.arbiter.searchStart) = false := by
  rw [nextGrant, if_pos h, searchOrder_eq, List.find?_eq_some_iff_getElem]
  simp only [List.length_map, List.length_range, List.getElem_map, List.getElem_range,
    Bool.not_eq_eq_eq_not, Bool.not_true]
  constructor
  · rintro ⟨hr, k, hk, rfl, hbefore⟩
    exact ⟨k, hk, rfl, hr, hbefore⟩
  · rintro ⟨k, hk, rfl, hr, hbefore⟩
    exact ⟨hr, k, hk, rfl, hbefore⟩

/-- Settles O45: the search order is the ring from the search start on. -/
theorem grantRotation : Obligations.GrantRotation := by
  intro s
  refine ⟨mayGrant_iff s, fun h => ?_, fun h => ⟨?_, nextGrant_eq_some h⟩⟩
  · rw [nextGrant, h, if_neg Bool.false_ne_true]
  · rw [nextGrant, if_pos h, List.find?_eq_none]
    exact ⟨fun hno r => Bool.eq_false_iff.2 (hno r (mem_searchOrder _ r)),
      fun hno r _ => ne_true_of_eq_false (hno r)⟩

/-! ### Grants (R20) -/

theorem grantNext_none {s : State} (h : nextGrant s = none) : grantNext s = s := by
  simp only [grantNext, h]

theorem grantNext_port {s : State} {p : Port} (h : nextGrant s = some (.pu p)) :
    grantNext s = grantPort p s := by
  simp only [grantNext, h]

theorem grantNext_save {s : State} {r : SaveRequest} (h : nextGrant s = some .save)
    (hr : s.save.request = some r) : grantNext s = grantSave r s := by
  simp only [grantNext, h, hr]

/-- No work of a table command changes the save record at its grant (R177). -/
theorem runTableCmd_record (p : Port) (c : TableCmd) (s : State) :
    (runTableCmd p c s).1.save.record = s.save.record := by
  rcases runTableCmd_save p c s with ⟨h, -⟩ | ⟨h, -⟩ | ⟨-, h⟩ | ⟨-, -, h⟩ <;> rw [h]
  split <;> rfl

/-- Settles O46: the grant row is the grant of the port, and the session end's row that of its
operation. -/
theorem grantRows : Obligations.GrantRows := by
  refine ⟨⟨fun s h => congrArg Host.Outcome.next (grantNext_none h), fun s p f h hu => ?port⟩,
    fun p s f re h hu hcmd => ?sessionEnd⟩
  case port =>
    refine congrArg Host.Outcome.next ?_
    rw [grantNext_port h, grantPort_some hu, beginOperation, runTableCmd_record]
    cases f.resolved <;> rfl
  case sessionEnd =>
    have hasks : asksSessionEnd p s = true := by
      obtain ⟨b, n, ps, c, res⟩ := f
      cases hcmd
      simp only [asksSessionEnd, hu]
    have hrow : exec (.sessionEnd p) s = .next (grantPort p s) :=
      congrArg Host.Outcome.next (if_pos ⟨h, hasks⟩)
    refine ⟨?_, hrow.trans (congrArg Host.Outcome.next (grantNext_port h).symm)⟩
    rw [hrow, grantPort_some hu, hcmd]
    rfl

/-! ### Completions (R162) -/

theorem runFinish_link (s : State) (p : Port) (fin : Finish) :
    ((runFinish fin s).port p).link = (s.port p).link := by
  cases fin with
  | session q re => cases re <;> cases q <;> cases p <;> rfl
  | wipe ends => cases ends <;> rfl
  | copy v =>
    obtain ⟨e, he⟩ := finishCopy_state v s
    rw [runFinish, he]
    rfl
  | plain | reload | saveStart | saveEnd => rfl

/-- The completion of a port's operation: what is left of it, and the result in the port. -/
theorem completeOperation_port {s : State} {p : Port} {f : InFlight} {a : Answer} {fin : Finish}
    {seen : Option SaveRecord}
    (hop : s.arbiter.op =
      some { requester := .pu p, answer := some a, finish := fin, saveSeen := seen })
    (hu : (s.port p).unit = some f) :
    completeOperation s = writeResult p f.opcode f.seq a
      ((runFinish fin s).withArbiter { s.arbiter with op := none }) := by
  have hunit : ((runFinish fin s).port p).unit = some f := (runFinish_port s p fin).2.2.1.trans hu
  simp only [completeOperation, hop, runFinish_withArbiter, handBack]
  split
  next g hg => cases hunit.symm.trans hg; rfl
  next hg => cases hunit.symm.trans hg

/-- Settles O47: the completion by what is in progress. -/
theorem completionWritesResult : Obligations.CompletionWritesResult := by
  refine ⟨fun s h => congrArg Host.Outcome.next (completeOperation_none h), fun s seen h => ?timer,
    fun s p f a fin seen hop hu => ?port⟩
  case timer =>
    refine congrArg Host.Outcome.next ?_
    simp only [completeOperation, h]
    rfl
  case port =>
    obtain ⟨hseq, -, -, -⟩ := runFinish_port s p fin
    have hframe := runFinish_frame fin s
    refine ⟨_, congrArg Host.Outcome.next (completeOperation_port hop hu), ?_, ?_, ?_, ?_, ?_, rfl,
      hframe.table, ?_⟩
    · simp only [writeResult, setPort_port]
    · simp only [writeResult, setPort_port]
    · simp only [writeResult, setPort_port]
    · simp only [writeResult, setPort_port]
      exact hseq
    · simp only [writeResult, setPort_port]
      exact runFinish_link s p fin
    · rintro rfl
      rfl

/-! ### Countdowns (R49, R80) -/

theorem reachesZero_iff (c : Countdown) :
    reachesZero c = true ↔ c ≠ .elapsed ∧ stepCount c = .elapsed := by
  cases c with
  | stopped => simp [reachesZero, stepCount]
  | elapsed => simp [reachesZero]
  | running r =>
    simp only [reachesZero, stepCount, decide_eq_true_eq, ne_eq, reduceCtorEq, not_false_eq_true, true_and]
    split
    next h => exact iff_of_true h rfl
    next h => exact iff_of_false h fun h => nomatch h

/-- The expiries of one instant that are not members yet (R22). -/
def freshExpiries (es : List Expiry) (t : LifetimeTimer) : List Expiry :=
  es.filter fun e => !(t.expiries.any fun b => b.contains e)

theorem mem_freshExpiries (es : List Expiry) (t : LifetimeTimer) (e : Expiry) :
    e ∈ freshExpiries es t ↔ e ∈ es ∧ ∀ b ∈ t.expiries, e ∉ b := by
  simp [freshExpiries]

/-- The expiries of one instant join as one group behind those already pending. -/
theorem postExpiries_eq (es : List Expiry) (s : State) :
    postExpiries es s = s.withTimer { s.timer with
      expiries := s.timer.expiries ++
        (if freshExpiries es s.timer = [] then [] else [freshExpiries es s.timer]) } := by
  unfold postExpiries
  simp only [List.isEmpty_iff]
  split
  next h =>
    rw [if_pos (show freshExpiries es s.timer = [] from h), List.append_nil]
    rfl
  next h => rw [if_neg (show freshExpiries es s.timer ≠ [] from h)]; rfl

theorem mem_allPorts (p : Port) : p ∈ allPorts := by cases p <;> decide

theorem draft_mem_elapsing (t : LifetimeTimer) (p : Port) :
    Expiry.draft p ∈ elapsing t ↔ reachesZero (t.draftCount.get p) = true := by
  simp [elapsing, mem_allPorts]

theorem anchor_mem_elapsing (t : LifetimeTimer) (p : Port) :
    Expiry.anchor p ∈ elapsing t ↔ reachesZero (t.anchorCount.get p) = true := by
  simp [elapsing, mem_allPorts]

theorem elapsing_nodup (t : LifetimeTimer) : (elapsing t).Nodup := by
  have hports : allPorts.Nodup := by decide
  refine List.nodup_append.2 ⟨?_, ?_, ?_⟩
  · exact (hports.filter _).map fun a b h => Expiry.draft.inj h
  · exact (hports.filter _).map fun a b h => Expiry.anchor.inj h
  · simp only [List.mem_map]
    rintro _ ⟨a, -, rfl⟩ _ ⟨b, -, rfl⟩
    exact nofun

theorem timeStep_eq {s : State} (hr : s.nreset = true) :
    timeStep s = postExpiries (elapsing s.timer) (s.withTimer { s.timer with
      draftCount := .make fun p => stepCount (s.timer.draftCount.get p)
      anchorCount := .make fun p => stepCount (s.timer.anchorCount.get p) }) := if_pos hr

/-- One expiry posted (R22). -/
theorem postExpiries_one (e : Expiry) (s : State) (tm : LifetimeTimer)
    (htm : tm.expiries = s.timer.expiries) :
    postExpiries [e] (s.withTimer tm) = s.withTimer { tm with
      expiries := if s.timer.expiries.any (fun b => b.contains e) then s.timer.expiries
        else s.timer.expiries ++ [[e]] } := by
  rw [postExpiries_eq]
  simp only [freshExpiries, withTimer_timer, htm, List.filter_cons, List.filter_nil]
  cases hany : s.timer.expiries.any fun b => b.contains e <;> simp [State.withTimer]

theorem reachesZero_one : reachesZero (.running 1) = true := rfl

theorem not_reachesZero {c : Countdown} (h : ∀ r, c = .running r → 1 < r.toNat) :
    reachesZero c = false := by
  cases c with
  | running r => exact decide_eq_false (Nat.not_le.2 (h r rfl))
  | stopped | elapsed => rfl

theorem stepCount_running {r : Byte} (h : 2 ≤ r.toNat) : stepCount (.running r) = .running (r - 1) :=
  if_neg (Nat.not_le.2 h)

/-- Settles O48: a step posts the expiries of the countdowns that reach zero in it, and a row of one
countdown that one. -/
theorem countdownRows : Obligations.CountdownRows := by
  refine ⟨⟨fun s hr => ?step, ⟨rfl, rfl, rfl, fun r => stepCount_running⟩, rfl, fun l hl => if_neg hl⟩,
    fun p s hr => ⟨fun h => ?draft, fun h => ?anchor, fun h => ?draftStays, fun h => ?anchorStays⟩⟩
  case step =>
    refine ⟨_, freshExpiries (elapsing s.timer) s.timer, congrArg Host.Outcome.next (timeStep_eq hr), ?_⟩
    rw [postExpiries_eq]
    refine ⟨fun p => ⟨by simp, by simp⟩, rfl, fun p => ?_, fun p => ?_, (elapsing_nodup _).filter _,
      rfl, rfl, rfl⟩
    · rw [mem_freshExpiries, draft_mem_elapsing, reachesZero_iff, and_assoc]
    · rw [mem_freshExpiries, anchor_mem_elapsing, reachesZero_iff, and_assoc]
  case draft =>
    refine congrArg Host.Outcome.next ((if_pos ?_).trans (postExpiries_one (.draft p) s _ rfl))
    rw [hr, h, reachesZero_one]; rfl
  case anchor =>
    refine congrArg Host.Outcome.next ((if_pos ?_).trans (postExpiries_one (.anchor p) s _ rfl))
    rw [hr, h, reachesZero_one]; rfl
  case draftStays =>
    refine congrArg Host.Outcome.next (if_neg ?_)
    rw [not_reachesZero h, Bool.and_false]
    exact Bool.false_ne_true
  case anchorStays =>
    refine congrArg Host.Outcome.next (if_neg ?_)
    rw [not_reachesZero h, Bool.and_false]
    exact Bool.false_ne_true

/-! ### Expiries (R50, R82) -/

theorem mayServe_of_mem {s : State} {e : Expiry} {group : List Expiry} {later : List (List Expiry)}
    (h : nextGrant s = some .timer) (hg : expiryGroups s = group :: later) (he : e ∈ group) :
    mayServe e s = true := by
  simp [mayServe, h, hg, he]

/-- A delivery of one flag to one port. -/
theorem deliverFlag_one (fl : NoticeFlags) (p : Port) (s : State) :
    deliverFlag fl (PortSet.add noPorts p) s =
      deliver (fun q => { flags := if q = p then fl else 0, indices := [], empties := false }) s := by
  have hhas (q : Port) : flagIf (PortSet.has (PortSet.add noPorts p) q) fl = if q = p then fl else 0 := by
    rw [PortSet.has_add, noPorts_has]
    by_cases h : q = p <;> simp [flagIf, h]
  simp only [deliverFlag, hhas]

theorem opDraftExpiry_acts {p : Port} {s : State} (hd : s.draft p ≠ [])
    (hc : s.timer.draftCount.get p = .elapsed) :
    opDraftExpiry p s = deliver
      (fun q => { flags := if q = p then flagDEXP else 0, indices := [], empties := false })
      (emptyDraft p s) := by
  rw [opDraftExpiry, if_pos (by simp [draftExpiryActs, hd, hc]), deliverFlag_one]

theorem opDraftExpiry_void {p : Port} {s : State}
    (h : s.draft p = [] ∨ s.timer.draftCount.get p ≠ .elapsed) : opDraftExpiry p s = s := by
  refine if_neg ?_
  rcases h with h | h <;> simp [draftExpiryActs, h]

theorem opAnchorExpiry_acts {p : Port} {s : State} (ha : s.anchor p ≠ none)
    (hc : s.timer.anchorCount.get p = .elapsed) :
    opAnchorExpiry p s = vacateTest (deliver
      (fun q => { flags := if q = p then flagPEXP else 0, indices := [], empties := false })
      (stopAnchor p (s.setAnchor p none))) := by
  rw [opAnchorExpiry, if_pos (by simp [anchorExpiryActs, Option.isSome_iff_ne_none, ha, hc]),
    deliverFlag_one]

theorem opAnchorExpiry_void {p : Port} {s : State}
    (h : s.anchor p = none ∨ s.timer.anchorCount.get p ≠ .elapsed) : opAnchorExpiry p s = s := by
  refine if_neg ?_
  rcases h with h | h <;> simp [anchorExpiryActs, h]

/-- The state in which an expiry acts: it has left the set. -/
def expiryTaken (e : Expiry) (s : State) : State :=
  s.withTimer { s.timer with expiries := dropExpiry e s.timer.expiries }

theorem grantExpiry_taken (e : Expiry) (s : State) :
    grantExpiry e s = (runExpiry e (expiryTaken e s)).withArbiter
      { searchStart := .save
        op := some { requester := .timer, answer := none, finish := .plain, saveSeen := none } } := rfl

/-- The expiry served is one of the earliest group, whichever the free choice is. -/
theorem pickExpiry_mem {group : List Expiry} (h : group ≠ []) (n : Nat) :
    ∃ e ∈ group, pickExpiry group n = some e := by
  match group, h with
  | [e], _ => exact ⟨e, by simp, rfl⟩
  | e :: e' :: es, _ =>
    refine ⟨_, ?_, rfl⟩
    have hlt : Config.expiryPick n % ((e' :: es).length + 1) < (e :: e' :: es).length :=
      Nat.mod_lt _ (Nat.succ_pos _)
    rw [List.getD_eq_getElem _ _ hlt]
    exact List.getElem_mem hlt

theorem grantTimer_row {s : State} (h : nextGrant s = some .timer) :
    ∃ (group : List Expiry) (later : List (List Expiry)) (e : Expiry),
      expiryGroups s = group :: later ∧ e ∈ group ∧
      exec .tableOperationGrant s = .next (grantExpiry e (s.withPick (s.freePick + 1))) := by
  have hholds : (expiryGroups s).isEmpty = false := by simpa [holdsRequest] using (nextGrant_some h).2
  cases hg : expiryGroups s with
  | nil => rw [hg] at hholds; cases hholds
  | cons group later =>
    have hgroup : group ≠ [] := by
      have hmem : group ∈ expiryGroups s := by rw [hg]; exact .head _
      simpa [expiryGroups] using (List.mem_filter.1 hmem).2
    obtain ⟨e, he, hpick⟩ := pickExpiry_mem hgroup s.freePick
    refine ⟨group, later, e, rfl, he, congrArg Host.Outcome.next ?_⟩
    simp only [grantNext, h, grantTimer, hg, hpick]

/-- Settles O49: the grant of an expiry is its work on the state it has left, begun as an operation. -/
theorem expiryRows : Obligations.ExpiryRows := by
  refine ⟨fun p s group later h hg => ⟨fun he => ⟨fun hd hc => ?draftActs, fun hv => ?draftVoid⟩,
    fun he => ⟨fun ha hc => ?anchorActs, fun hv => ?anchorVoid⟩⟩, fun s => grantTimer_row⟩
  all_goals
    refine congrArg Host.Outcome.next ((if_pos (mayServe_of_mem h hg he)).trans ?_)
    rw [grantExpiry_taken, runExpiry]
  case draftActs => rw [opDraftExpiry_acts (s := expiryTaken (.draft p) s) hd hc]; rfl
  case draftVoid => rw [opDraftExpiry_void (s := expiryTaken (.draft p) s) hv]; rfl
  case anchorActs => rw [opAnchorExpiry_acts (s := expiryTaken (.anchor p) s) ha hc]; rfl
  case anchorVoid => rw [opAnchorExpiry_void (s := expiryTaken (.anchor p) s) hv]; rfl

end Sys2Proof.Proofs

/-! PROOF. The rows of the Save Engine (R179 to R185): the ends of the works on the Retained Store, the copy
of one entry, and the end of a save. -/

namespace Sys2Proof.Proofs
open Sys2Proof.Machine

/-! ### After a visit (R181, R183) -/

theorem advanceSave_next {s : State} (h : s.save.record.nextIndex.val < 255) :
    advanceSave s = s.withSave { s.save with
      record := { s.save.record with nextIndex := s.save.record.nextIndex + 1 }
      work := .none
      request := some .copy } := by
  have hnext : (⟨s.save.record.nextIndex.val + 1, by omega⟩ : Index) =
      s.save.record.nextIndex + 1 := by
    apply Fin.ext
    rw [Fin.val_add]
    exact (Nat.mod_eq_of_lt (by show _ + 1 < 256; omega)).symm
  rw [advanceSave, dif_pos h, hnext]

theorem advanceSave_last {s : State} (h : s.save.record.nextIndex.val = 255) :
    advanceSave s = s.withSave { s.save with
      record := { s.save.record with state := .closing }
      work := .header
      request := none } :=
  dif_neg (by omega)

/-! ### The ends of the works on the Store -/

theorem eraseComplete_true {s : State} {n : BankName} (hw : s.save.work = .erase)
    (ht : s.save.record.target = some n) :
    eraseComplete true s = (s.withStore (s.store.set n blankBank)).withSave { s.save with
      record := { s.save.record with state := .copying }
      work := .none
      request := some .copy } := by
  simp only [eraseComplete, hw, ht, if_true]

theorem eraseComplete_false {s : State} (hw : s.save.work = .erase) :
    eraseComplete false s = decideOutcome .fault s := by
  simp only [eraseComplete, hw, if_true]
  rfl

/-- The state with the record standing in the bank and counted, its work still to end (R181). -/
def programmed (s : State) (n : BankName) (r : RetainedRecord) : State :=
  (s.withStore (s.store.set n (programRecord r s.save.record.copied (s.store.get n)))).withRecord
    { s.save.record with copied := s.save.record.copied + 1 }

theorem programComplete_true {s : State} {n : BankName} {r : RetainedRecord}
    (hw : s.save.work = .program r) (ht : s.save.record.target = some n) :
    programComplete true s = advanceSave (programmed s n r) := by
  simp only [programComplete, hw, if_true, programmed]
  rw [ht]

theorem programComplete_false {s : State} {r : RetainedRecord} (hw : s.save.work = .program r) :
    programComplete false s = decideOutcome .fault s := by
  simp only [programComplete, hw]
  rfl

theorem headerComplete_true {s : State} {n : BankName} (hw : s.save.work = .header)
    (ht : s.save.record.target = some n) :
    headerComplete true s = decideOutcome .done
      ((s.withStore (s.store.set n (writeHeader (headerSequence s) (s.save.record.gs.getD 0)
        s.save.record.copied (s.store.get n)))).withSave { s.save with active := some n }) := by
  simp only [headerComplete, hw, ht, if_true]

theorem headerComplete_false {s : State} {n : BankName} (hw : s.save.work = .header)
    (ht : s.save.record.target = some n) :
    headerComplete false s =
      (s.withStore (s.store.set n { s.store.get n with marker := false })).withSave
        { s.save with work := .reerase } := by
  simp only [headerComplete, hw, ht, if_true]
  rfl

theorem reeraseComplete_eq {s : State} {n : BankName} (hw : s.save.work = .reerase)
    (ht : s.save.record.target = some n) (v : Bool) :
    reeraseComplete v s =
      decideOutcome .fault (s.withStore (if v then s.store.set n blankBank else s.store)) := by
  simp only [reeraseComplete, hw, ht, if_true]
  cases v <;> rfl

section
variable {r : RetainedRecord} {b : Bank} {k : Nat}

/-- The record stands at the position equal to records copied, behind those before it (R181). -/
theorem programRecord_records (h : k ≤ b.records.length) :
    (programRecord r k b).records[k]? = some r ∧ (programRecord r k b).records.length = k + 1 ∧
      ∀ j, j < k → (programRecord r k b).records[j]? = b.records[j]? := by
  have hlen : (b.records.take k).length = k := List.length_take_of_le h
  refine ⟨?_, ?_, fun j hj => ?_⟩
  · show (b.records.take k ++ [r])[k]? = some r
    rw [List.getElem?_append_right (by omega), hlen, Nat.sub_self]
    rfl
  · show (b.records.take k ++ [r]).length = k + 1
    rw [List.length_append, hlen]
    rfl
  · show (b.records.take k ++ [r])[j]? = _
    rw [List.getElem?_append_left (by omega), List.getElem?_take_of_lt hj]

end

theorem RetainedStore.get_set_same (st : RetainedStore) (n : BankName) (b : Bank) :
    (st.set n b).get n = b := by
  rw [RetainedStore.get_set, if_pos rfl]

/-- Settles O42: the row of each work, by its verify result. -/
theorem storeWorkRows : Obligations.StoreWorkRows := by
  refine ⟨⟨fun s n hw ht => ⟨?erased, ?eraseFault⟩, fun s n r hw ht hlen => ⟨?programmed, ?programFault⟩⟩,
    fun s n ht => ⟨fun hw => ?written, fun hw => ?headerFault, fun hw v => ?reerased⟩⟩
  case erased => exact congrArg Host.Outcome.next (eraseComplete_true hw ht)
  case eraseFault => exact congrArg Host.Outcome.next (eraseComplete_false hw)
  case programFault => exact congrArg Host.Outcome.next (programComplete_false hw)
  case headerFault => exact congrArg Host.Outcome.next (headerComplete_false hw ht)
  case programmed =>
    obtain ⟨hat, hlength, hbefore⟩ := programRecord_records (r := r) hlen
    refine ⟨_, congrArg Host.Outcome.next (programComplete_true hw ht), ?_⟩
    have hstore : (advanceSave (programmed s n r)).store =
        s.store.set n (programRecord r s.save.record.copied (s.store.get n)) := advanceSave_store _
    have hbank : (advanceSave (programmed s n r)).store.get n =
        programRecord r s.save.record.copied (s.store.get n) := by
      rw [hstore, RetainedStore.get_set_same]
    rw [hbank]
    refine ⟨hat, hlength, hbefore, hstore, ?_⟩
    rcases Nat.lt_or_eq_of_le (Nat.le_of_lt_succ s.save.record.nextIndex.isLt) with hlt | hlast
    · rw [advanceSave_next (s := programmed s n r) hlt]
      simp only [if_neg (Nat.ne_of_lt hlt)]
      exact ⟨rfl, rfl, rfl, rfl⟩
    · rw [advanceSave_last (s := programmed s n r) hlast]
      simp only [if_pos hlast]
      exact ⟨rfl, rfl, rfl, rfl⟩
  case written =>
    have hstore : (headerComplete true s).store.get n = writeHeader (headerSequence s)
        (s.save.record.gs.getD 0) s.save.record.copied (s.store.get n) := by
      rw [headerComplete_true hw ht]
      exact RetainedStore.get_set_same _ _ _
    refine ⟨headerComplete true s, rfl, ?_⟩
    rw [hstore]
    refine ⟨rfl, ?_, fun g hg => ?_, rfl, rfl, bankValid_writeHeader _, ?_, ?_⟩
    · cases hactive : s.save.active with
      | none => simp only [writeHeader, headerSequence, hactive]
      | some m => simp only [writeHeader, headerSequence, hactive]
    · simp only [writeHeader, hg, Option.getD_some]
    · rw [headerComplete_true hw ht]
      rfl
    · rw [headerComplete_true hw ht]
      rfl
  case reerased =>
    refine ⟨_, congrArg Host.Outcome.next (reeraseComplete_eq hw ht v), rfl, ?_, rfl⟩
    cases v <;> rfl

/-! ### The copy of one entry (R180, R181) -/

/-- The row that grants what the Save Engine asks for is the grant of it (log 20). -/
theorem saveCopy_grants {s : State} (h : nextGrant s = some .save) (hr : s.save.request = some .copy) :
    exec .saveCopy s = .next (grantSave .copy s) ∧
      exec .saveCopy s = exec .tableOperationGrant s := by
  have hrow : exec .saveCopy s = .next (grantSave .copy s) :=
    congrArg Host.Outcome.next (if_pos ⟨h, hr⟩)
  exact ⟨hrow, hrow.trans (congrArg Host.Outcome.next (grantNext_save h hr).symm)⟩

theorem saveEnd_grants {s : State} (h : nextGrant s = some .save)
    (hr : s.save.request = some .finish) :
    exec .saveEnd s = .next (grantSave .finish s) ∧
      exec .saveEnd s = exec .tableOperationGrant s := by
  have hrow : exec .saveEnd s = .next (grantSave .finish s) :=
    congrArg Host.Outcome.next (if_pos ⟨h, hr⟩)
  exact ⟨hrow, hrow.trans (congrArg Host.Outcome.next (grantNext_save h hr).symm)⟩

/-- An operation of the Save Engine hands nothing back. -/
theorem completeOperation_save {s : State} {op : TableOperation} (hop : s.arbiter.op = some op)
    (hr : op.requester = .save) :
    completeOperation s =
      (runFinish op.finish s).withArbiter { s.arbiter with op := none } := by
  simp only [completeOperation, hop, runFinish_withArbiter, handBack, hr]

theorem finishCopy_pending {s : State} (v : Visit) (h : s.save.record.endPending ≠ none) :
    finishCopy v s = s :=
  if_pos (Option.isSome_iff_ne_none.2 h)

theorem finishCopy_open {s : State} (h : s.save.record.endPending = none) (v : Visit) :
    finishCopy v s = match v with
      | .noRecord => advanceSave s
      | .torn => decideOutcome .torn s
      | .record r => s.withSave { s.save with work := .program r, request := none } := by
  cases v <;> exact if_neg (by simp [h])

/-- The visit of an entry that has a record, retained (R180). -/
theorem visitEntry_retained {i : Index} {c : Content} {r : Rec} {gs : Gen}
    (hc : c = .live r ∨ ∃ rg, c = .retired r rg) (hr : r.retain = true) :
    visitEntry i c gs = match versionedRead c gs with
      | .absent | .retired _ => .noRecord
      | .stale _ => .torn
      | .found v _ => if within r.kind r.low r.high v then .record (retainedOf i r v) else .torn := by
  have hkept : ¬ r.retain = false := ne_false_of_eq_true hr
  rcases hc with rfl | ⟨rg, rfl⟩ <;> exact if_neg hkept

theorem visitEntry_unretained {i : Index} {c : Content} {r : Rec} (gs : Gen)
    (hc : c = .live r ∨ ∃ rg, c = .retired r rg) (hr : r.retain = false) :
    visitEntry i c gs = .noRecord := by
  rcases hc with rfl | ⟨rg, rfl⟩ <;> exact if_pos hr

/-- Settles O43: the grant by its row, the completion by `finishCopy`, the visit by its versioned read. -/
theorem saveCopyRows : Obligations.SaveCopyRows := by
  refine ⟨⟨fun s h hr => ?grant, fun s op v hop hf hreq => ?complete⟩, fun i gs => ⟨rfl, fun c r hc => ?visit⟩⟩
  case grant =>
    obtain ⟨hrow, hsame⟩ := saveCopy_grants h hr
    refine ⟨hrow.trans ?_, hsame⟩
    cases hgs : s.save.record.gs <;> simp only [grantSave_copy, visitNext, hgs] <;> rfl
  case complete =>
    have hcomplete := completeOperation_save hop hreq
    rw [hf] at hcomplete
    obtain ⟨e, he⟩ := finishCopy_state v s
    refine ⟨_, congrArg Host.Outcome.next hcomplete, ?_, fun hend => ?_, fun hend =>
      ⟨fun hv => ?_, fun r hv => ?_, fun hv hlt => ?_, fun hv hlast => ?_⟩⟩
    · rw [runFinish, he]
      rfl
    · rw [runFinish, finishCopy_pending v hend]
      rfl
    all_goals rw [runFinish, finishCopy_open hend, hv]
    · rfl
    · rfl
    · simp only [advanceSave_next hlt]
      rfl
    · simp only [advanceSave_last hlast]
      rfl
  case visit =>
    refine ⟨visitEntry_unretained gs hc, fun hr => ?_⟩
    rw [visitEntry_retained hc hr]
    refine ⟨fun h => ?_, fun rg h => ?_, fun pg h => ?_, fun v g h => ⟨fun hw => ?_, fun hw => ?_⟩⟩ <;>
      rw [h]
    · simp only [hw, Bool.false_eq_true, if_false]
    · simp only [hw, if_true]
      rfl

/-! ### The end of a save (R185) -/

theorem opSaveEnd_eq (s : State) : opSaveEnd s =
    if s.table.saveAnchor = none then s else vacateTest (s.setSaveAnchor none) := by
  rw [opSaveEnd]
  cases s.table.saveAnchor <;> rfl

/-- A flag to every attached port. -/
theorem deliverSave_notice (s : State) (q : Port) :
    (deliverSave s).notice q = if s.attached q then
      raiseTest { s.notice q with flags := (s.notice q).flags ||| flagSAVE } else s.notice q := by
  have hsave : flagSAVE ≠ 0 := by decide
  rw [deliverSave, deliver_notice]
  exact congrArg (ite _ · _) (applyDelivery_flagIf hsave true (s.notice q))

/-- Settles O44: the grant by its row, the completion by `finishSaveEnd`. -/
theorem saveEndRows : Obligations.SaveEndRows := by
  refine ⟨fun s h hr => ?grant, fun s op hop hf hreq => ?complete⟩
  case grant =>
    obtain ⟨hrow, hsame⟩ := saveEnd_grants h hr
    refine ⟨hrow.trans ?_, hsame⟩
    rw [grantSave_finish, opSaveEnd_eq]
    cases ha : s.table.saveAnchor <;> simp only [withSave_table, ha, reduceCtorEq, if_true, if_false] <;> rfl
  case complete =>
    have hcomplete := completeOperation_save hop hreq
    rw [hf] at hcomplete
    refine ⟨_, congrArg Host.Outcome.next hcomplete, fun q => ?_, rfl⟩
    exact deliverSave_notice _ q

end Sys2Proof.Proofs

/-! PROOF. The commands of the Save Engine (R23, R24, R178, R186 to R191): `save_start`, `save_status` and
`save_abort`, `table_wipe` and `table_reload`, each served whole. -/

namespace Sys2Proof.Proofs
open Sys2Proof.Machine

/-! ### A table command served by its work -/

section
variable {o : Opcode} {p : Port} {ps : List Byte} {s t : State} {c : TableCmd} {a : Answer} {f : Finish}
  {res : Option Index}

/-- A command served whole on a quiet port is its path's operation: the work, what is left of it, and the
answer in the port. -/
theorem served_work (hq : quiet p s = true) (hlen : ps.length + 1 = expectedCount o)
    (hsup : supervisorOnly o = true → p = .P0)
    (hpath : commandPath (s.port p) o ps = .table c res) (hwork : runTableCmd p c s = (t, a, f)) :
    served (rowOf o p ps) s =
      .next (servedState p (opcodeByte o) ps.length (withHandle res a) (sentByte p s)
        (runFinish f t)) := by
  rw [served_table (quiet_link hq) ((judge_of_quiet hq hlen hsup).trans hpath), finished, hwork]

end

/-- A command that every port may issue. -/
theorem forAll_ports {o : Opcode} {p : Port} (h : supervisorOnly o = false) :
    supervisorOnly o = true → p = .P0 :=
  fun h' => absurd (h.symm.trans h') Bool.false_ne_true

/-! ### `save_start` (R178) -/

theorem opSaveStart_busy {p : Port} {s : State} (h : s.save.record.state ≠ .idle) :
    opSaveStart p s = (s, { status := .saveBusy, payload :=
      [saveStateByte s.save.record.state, portOrNoneByte s.save.record.starter] }, .plain) :=
  if_pos h

theorem opSaveStart_limit {p : Port} {s : State} (h : s.save.record.state = .idle)
    (hseq : activeSequence s = Config.lastGen) :
    opSaveStart p s = (s, { status := .imageLimit, payload := [bankByte s.save.active] }, .plain) :=
  (if_neg (not_not_intro h)).trans (if_pos hseq)

theorem opSaveStart_begins {p : Port} {s : State} (h : s.save.record.state = .idle)
    (hseq : activeSequence s ≠ Config.lastGen) :
    opSaveStart p s = (s.setSaveAnchor (some s.table.g),
      okWith (be32 s.table.g ++ [bankByte (some (targetBank s.save.active))]),
      .saveStart p s.table.g) :=
  (if_neg (not_not_intro h)).trans (if_neg hseq)

/-- Settles O38: the three outcomes of `save_start` at its grant, the last with its completion. -/
theorem saveStartServed : Obligations.SaveStartServed := by
  intro p s hq
  have hserved {t : State} {a : Answer} {f : Finish} (h : opSaveStart p s = (t, a, f)) :=
    served_work (o := .saveStart) (ps := []) hq rfl (forAll_ports rfl) rfl h
  refine ⟨fun h => hserved (opSaveStart_busy h), fun h hseq => hserved (opSaveStart_limit h hseq),
    fun h hseq => (hserved (opSaveStart_begins h hseq)).trans ?_⟩
  rfl

/-! ### `save_status` and `save_abort` (R177, R186, R188) -/

/-- A command answered at its take on an attached port. -/
theorem exec_portCmd {o : Opcode} {p : Port} {ps : List Byte} {s t : State} {c : PortCmd} {a : Answer}
    (ht : takesAttached p s = true) (hlen : ps.length + 1 = expectedCount o)
    (hsup : supervisorOnly o = true → p = .P0)
    (hpath : commandPath (s.port p) o ps = .atTake c) (hrun : runPortCmd p c s = (t, a)) :
    exec (rowOf o p ps) s =
      .next (answeredState p (opcodeByte o) ps.length a (sentByte p s) t) := by
  rw [exec_atTake (takesAttached_takes ht) ((judge_of_takesAttached ht hlen hsup).trans hpath), hrun]

theorem seenRecord_of_idle {s : State} (h : s.arbiter.op = none) : seenRecord s = s.save.record := by
  simp only [seenRecord, h]

theorem seenRecord_of_seen {s : State} {o : TableOperation} {r : SaveRecord}
    (h : s.arbiter.op = some o) (hr : o.saveSeen = some r) : seenRecord s = r := by
  obtain ⟨q, a, f, seen⟩ := o
  cases hr
  simp only [seenRecord, h]

/-- Settles O39: the status from the record seen; the abort by the rows of R186. -/
theorem saveStatusAndAbort : Obligations.SaveStatusAndAbort := by
  refine ⟨⟨fun p s ht => ?status, fun s => ⟨seenRecord_of_idle, fun o r => seenRecord_of_seen⟩⟩,
    fun p s ht => ?abort⟩
  case status =>
    refine (exec_portCmd (o := .saveStatus) ht rfl (forAll_ports rfl) rfl rfl).trans ?_
    simp only [portSaveStatus, saveStatusPayload]
    cases (seenRecord s).gs <;> rfl
  case abort =>
    have hrow {t : State} {a : Answer} (h : portSaveAbort p s = (t, a)) :=
      exec_portCmd (o := .saveAbort) (ps := []) ht rfl (forAll_ports rfl) rfl h
    refine ⟨fun hidle => hrow (if_pos hidle), fun hidle hst hp =>
      hrow ((if_neg hidle).trans (if_pos ⟨hst, hp⟩)), fun hidle hmay => ?_⟩
    have hright : ¬ ((seenRecord s).starter ≠ some p ∧ p ≠ .P0) := by
      rintro ⟨hst, hp⟩
      exact hmay.elim hst hp
    have hlater := (if_neg hidle : portSaveAbort p s = _).trans (if_neg hright)
    refine ⟨fun hbusy => hrow (hlater.trans (if_pos ?_)), fun hend hclosing =>
      (hrow (hlater.trans (if_neg ?_))).trans ?_⟩
    · exact hbusy.imp_left Option.isSome_iff_ne_none.2
    · rintro (h | h)
      · exact absurd hend (Option.isSome_iff_ne_none.1 h)
      · exact hclosing h
    · cases (seenRecord s).gs <;> rfl

/-! ### Wipes (R23, R24, R187) -/

/-- The state after a wipe of `s`: the table, the countdowns, the notices and the save. -/
def Wiped (s t : State) : Prop :=
  let ends := s.save.record.state = .erasing ∨ s.save.record.state = .copying
  (∀ i, t.entry i = { content := .vacant, claim := none, waiters := noPorts }) ∧
  t.table.tagIndex = [] ∧ (∀ i, t.table.dependents.get i = []) ∧ t.table.g = 0 ∧
  (∀ q, t.draft q = [] ∧ t.anchor q = none) ∧ t.table.saveAnchor = none ∧
  t.timer = { s.timer with
    draftCount := ⟨.stopped, .stopped, .stopped, .stopped⟩
    anchorCount := ⟨.stopped, .stopped, .stopped, .stopped⟩ } ∧
  (∀ q, t.notice q = if s.attached q then
    raiseTest { s.notice q with
      changed := []
      flags := (s.notice q).flags ||| flagWIPE ||| (if ends then flagSAVE else 0) }
    else s.notice q) ∧
  t.save = (if ends then
    { s.save with
      record := { s.save.record with
        state := .idle, endPending := none, lastOutcome := some .aborted }
      work := .none
      request := none }
    else s.save) ∧
  t.store = s.store ∧ t.nreset = s.nreset ∧ t.freePick = s.freePick

/-- A wipe from its grant to its completion, on one state. -/
def wipedState (s : State) : State := runFinish (.wipe (savePhaseEnds s)) (opTableWipe s).1

theorem opTableWipe_eq (s : State) :
    opTableWipe s = ((opTableWipe s).1, okWith (be32 s.table.g), .wipe (savePhaseEnds s)) := rfl

/-- WIPE with an emptied changed set, and SAVE beside it when a save ends (R24, R134). -/
theorem applyDelivery_wipe (b : Bool) (n : NoticeUnit) :
    applyDelivery { flags := flagWIPE ||| flagIf b flagSAVE, indices := [], empties := true } n =
      raiseTest { n with changed := [], flags := n.flags ||| flagWIPE ||| (if b then flagSAVE else 0) } := by
  have hne : ({ flags := flagWIPE ||| flagIf b flagSAVE, indices := [], empties := true } : Delivery) ≠
      noDelivery := fun h => nomatch congrArg Delivery.empties h
  rw [applyDelivery, if_neg hne, BitVec.or_assoc]
  rfl

theorem deliverWipe_notice (b : Bool) (s : State) (q : Port) :
    (deliverWipe b s).notice q = if s.attached q then
      raiseTest { s.notice q with
        changed := []
        flags := (s.notice q).flags ||| flagWIPE ||| (if b then flagSAVE else 0) }
      else s.notice q := by
  rw [deliverWipe, deliver_notice, applyDelivery_wipe]

theorem wipedState_ending {s : State} (h : savePhaseEnds s = true) :
    wipedState s = deliverWipe true ((wipeTable s).withSave { s.save with
      record := { s.save.record with
        state := .idle, endPending := none, lastOutcome := some .aborted }
      work := .none
      request := none }) := by
  simp only [wipedState, opTableWipe, h, if_true]
  rfl

theorem wipedState_sparing {s : State} (h : savePhaseEnds s = false) :
    wipedState s = deliverWipe false (wipeTable s) := by
  simp only [wipedState, opTableWipe, h]
  rfl

theorem wipeTable_entry (s : State) (i : Index) : (wipeTable s).entry i = vacantEntry :=
  resetTable_get i

theorem wipeTable_draft (s : State) (q : Port) : (wipeTable s).draft q = [] := resetTable_draft q

theorem wipeTable_anchor (s : State) (q : Port) : (wipeTable s).anchor q = none := by
  cases q <;> rfl

theorem wipedState_wiped (s : State) : Wiped s (wipedState s) := by
  have hends := savePhaseEnds_iff s
  cases h : savePhaseEnds s with
  | true =>
    rw [h] at hends
    have hphase := hends.1 rfl
    rw [wipedState_ending h]
    refine ⟨wipeTable_entry s, rfl, resetTable_dependents_get, rfl,
      fun q => ⟨wipeTable_draft s q, wipeTable_anchor s q⟩, rfl, rfl, fun q => ?_, (if_pos hphase).symm,
      rfl, rfl, rfl⟩
    rw [deliverWipe_notice, if_pos hphase]
    rfl
  | false =>
    rw [h] at hends
    have hphase := mt hends.2 Bool.false_ne_true
    rw [wipedState_sparing h]
    refine ⟨wipeTable_entry s, rfl, resetTable_dependents_get, rfl,
      fun q => ⟨wipeTable_draft s q, wipeTable_anchor s q⟩, rfl, rfl, fun q => ?_, (if_neg hphase).symm,
      rfl, rfl, rfl⟩
    rw [deliverWipe_notice, if_neg hphase]
    rfl

theorem wipedState_ports (s : State) : (wipedState s).ports = s.ports := by
  cases h : savePhaseEnds s with
  | true => rw [wipedState_ending h]; rfl
  | false => rw [wipedState_sparing h]; rfl

theorem wipedState_pending (s : State) : (wipedState s).pending = s.pending := by
  cases h : savePhaseEnds s with
  | true => rw [wipedState_ending h]; rfl
  | false => rw [wipedState_sparing h]; rfl

/-- What a wipe of a state leaves does not depend on its ports but for their sessions. -/
theorem Wiped.of_requestDropped {p : Port} {s t : State} (h : Wiped (requestDropped p s) t) :
    Wiped s t := by
  obtain ⟨hentry, htag, hdep, hg, hport, hanchor, htimer, hnotice, hrest⟩ := h
  refine ⟨hentry, htag, hdep, hg, hport, hanchor, htimer, fun q => ?_, hrest⟩
  have hattached : (requestDropped p s).attached q = s.attached q := attached_setPort s p q _ rfl
  rw [hnotice q, hattached]
  rfl

/-- A wipe in flight at its grant and its completion (R20, R162). -/
theorem grantedWipe {s : State} {f : InFlight} (h : nextGrant s = some (.pu .P0))
    (hu : (s.port .P0).unit = some f) (hcmd : f.cmd = .tableWipe) :
    runRows [.tableOperationGrant, .tableOperationCompletion] s =
      .next (writeResult .P0 f.opcode f.seq (withHandle f.resolved (okWith (be32 s.table.g)))
        ((wipedState (requestDropped .P0 s)).withArbiter { searchStart := .pu .P1, op := none })) := by
  have hgrant : exec .tableOperationGrant s = .next (grantPort .P0 s) :=
    congrArg Host.Outcome.next (grantNext_port h)
  have hcomplete : exec .tableOperationCompletion (grantPort .P0 s) =
      .next (completeOperation (grantPort .P0 s)) := rfl
  have hbegun : grantPort .P0 s = beginOperation (.pu .P0)
      (some (withHandle f.resolved (okWith (be32 s.table.g))))
      (.wipe (savePhaseEnds s)) (opTableWipe (requestDropped .P0 s)).1 := by
    rw [grantPort_some hu, hcmd]
    rfl
  have hunit : ((grantPort .P0 s).port .P0).unit = some f := by
    have hports : (opTableWipe (requestDropped .P0 s)).1.ports = (requestDropped .P0 s).ports :=
      runTableCmd_ports _ .P0 .tableWipe
    have hport : (grantPort .P0 s).port .P0 = (requestDropped .P0 s).port .P0 := by
      rw [hbegun]
      exact congrArg (fun v => PerPort.get v .P0) hports
    rw [hport, requestDropped, setPort_port]
    exact hu
  simp only [runRows, hgrant, hcomplete]
  rw [completeOperation_port (congrArg (fun t => t.arbiter.op) hbegun) hunit, hbegun, beginOperation,
    runFinish_withArbiter]
  rfl

/-- Settles O40: served whole, and granted and completed whatever else is asked for, the wipe is
`wipedState`. -/
theorem tableWipeServed : Obligations.TableWipeServed := by
  refine ⟨fun s hq => ⟨wipedState s, ?served, wipedState_wiped s, wipedState_ports s⟩,
    fun s f h hu hcmd => ⟨_, grantedWipe h hu hcmd, ?wiped, ?ports, rfl, wipedState_pending _⟩⟩
  case served =>
    exact served_work (o := .tableWipe) (ps := []) hq rfl (fun _ => rfl) rfl (opTableWipe_eq s)
  case wiped => exact (wipedState_wiped (requestDropped .P0 s)).of_requestDropped
  case ports =>
    have hports := wipedState_ports (requestDropped .P0 s)
    simp only [writeResult, State.setPort, State.port, withPorts_ports, withArbiter_ports, hports]
    rfl

/-! ### Reloads (R191) -/

theorem opTableReload_busy {s : State} (h : s.save.record.state ≠ .idle) :
    opTableReload s = (s, { status := .saveBusy, payload :=
      [saveStateByte s.save.record.state, portOrNoneByte s.save.record.starter] }, .plain) :=
  if_pos h

/-- The state in which a reload is answered: wiped, and loaded (R191). -/
def reloaded (s : State) : State := loadImage (wipeTable (s.withSave { s.save with device := .loading }))

theorem opTableReload_loads {s : State} (h : s.save.record.state = .idle) :
    opTableReload s = (reloaded s,
      okWith (be32 s.table.g ++ count16 (countEntries Entry.isLive (reloaded s).table.entries) ++
        [bankByte (reloaded s).save.active] ++ be32 (activeSequence (reloaded s)) ++
        optGen (imageGs (reloaded s))), .reload) :=
  if_neg (not_not_intro h)

theorem reloaded_eq (s : State) : reloaded s =
    ((wipeTable s).withSave { s.save with device := .loading, active := selectBank s.store }).withTable
      ((storedImage s.store).foldl loadRecord resetTable) := rfl

theorem finishReload_reloaded (s : State) : finishReload (reloaded s) = deliverWipe false
    (((wipeTable s).withSave { s.save with device := .ready, active := selectBank s.store }).withTable
      ((storedImage s.store).foldl loadRecord resetTable)) := by
  rw [reloaded_eq]
  rfl

/-- Settles O41: the refusal, and the load with what its completion delivers. -/
theorem tableReloadServed : Obligations.TableReloadServed := by
  intro s hq
  have hserved {t : State} {a : Answer} {f : Finish} (h : opTableReload s = (t, a, f)) :=
    served_work (o := .tableReload) (ps := []) hq rfl (fun _ => rfl) rfl h
  refine ⟨fun h => hserved (opTableReload_busy h), fun h =>
    ⟨finishReload (reloaded s), (hserved (opTableReload_loads h)).trans ?answer, ?_⟩⟩
  case answer =>
    rw [runFinish, finishReload_reloaded, reloaded_eq]
    rfl
  rw [finishReload_reloaded]
  refine ⟨rfl, rfl, fun q => ?_, rfl, rfl, rfl, rfl, rfl⟩
  have hzero (x : NoticeFlags) : x ||| 0 = x := BitVec.or_zero
  rw [deliverWipe_notice, if_neg Bool.false_ne_true, hzero]
  rfl

end Sys2Proof.Proofs

/-! PROOF. The settings of a port, the delivery at a Notice Unit and the current reads (R27, R30, R36,
R41 to R44, R134, R137 to R139, R166, R171). -/

namespace Sys2Proof.Proofs
open Sys2Proof.Machine

/-! ### Sessions and settings (R30, R166, R171) -/

theorem judge_attachFresh {p : Port} {s : State} (hstart : s.save.startup = false)
    (hatt : s.attached p = false) :
    judge s p (some .attach) [] = .atTake .attachFresh := by
  have hsession := session_of_not_attached hatt
  simp [judge, hstart, expectedCount, allowedDetached, supervisorOnly, commandPath, hsession]

theorem setWindows_path (u : PortUnit) {a b : Byte} (ha : a.toNat < 32) (hb : b.toNat < 32) :
    commandPath u .setWindows [a, b] = .atTake (.setWindows ⟨a.toNat, ha⟩ ⟨b.toNat, hb⟩) := by
  have h1 : sliceOf (byteAt [a, b] 1) = some ⟨a.toNat, ha⟩ := sliceOf_lt ha
  have h2 : sliceOf (byteAt [a, b] 2) = some ⟨b.toNat, hb⟩ := sliceOf_lt hb
  simp only [commandPath, h1, h2]

theorem sliceByte_of {a : Byte} (h : a.toNat < 32) : sliceByte ⟨a.toNat, h⟩ = a := by
  simp [sliceByte]

/-- Settles O9: each of the three acts at its take. -/
theorem attachAndSettings : Obligations.AttachAndSettings := by
  refine ⟨fun p s ht hstart hatt => ?attach, fun p s ht =>
    ⟨fun a b ha hb => ?windows, fun d a => ?lifetimes⟩⟩
  case attach =>
    rw [show exec (.attach p []) s = exec (rowOf .attach p []) s from rfl,
      exec_atTake ht (judge_attachFresh hstart hatt)]
    cases p <;> rfl
  case windows =>
    have hrow := exec_portCmd (o := .setWindows) ht rfl (forAll_ports rfl)
      (setWindows_path (s.port p) ha hb) rfl
    rw [sliceByte_of, sliceByte_of] at hrow
    exact hrow
  case lifetimes => exact exec_portCmd (o := .setLifetimes) ht rfl (forAll_ports rfl) rfl rfl

/-! ### Enables and deliveries (R134, R137 to R139) -/

/-- Settles O14: bit 7 of the mask decides; the gate is that of `noticeSetEnables_eq`, state by state. -/
theorem enablesReplaced : Obligations.EnablesReplaced := by
  intro p s m ht
  refine ⟨fun hm => ?refused, fun hm => ?taken⟩
  case refused => exact exec_badParam (o := .setNoticeEnables) ht rfl nofun (maskPath_of_invalid hm _)
  case taken =>
    refine ⟨noticeSetEnables (m.setWidth 7) (s.notice p),
      exec_notice (o := .setNoticeEnables) (c := .setEnables _) ht rfl nofun (maskPath_of_valid hm _),
      ?_⟩
    rw [noticeSetEnables_eq]
    cases (s.notice p).gate <;> rfl

theorem mem_foldl_addIndex (is : List Index) (js : IndexSet) (i : Index) :
    i ∈ is.foldl (fun js k => addIndex k js) js ↔ i ∈ is ∨ i ∈ js := by
  induction is generalizing js with
  | nil => simp
  | cons k ks ih => rw [List.foldl_cons, ih, mem_addIndex, List.mem_cons]; tauto

/-- A delivery that carries something takes the four steps of R134. -/
theorem applyDelivery_of_ne {d : Delivery} (h : d ≠ noDelivery) (n : NoticeUnit) :
    applyDelivery d n = raiseTest { n with
      changed := d.indices.foldl (fun js i => addIndex i js) (if d.empties then [] else n.changed)
      flags := n.flags ||| d.flags } :=
  if_neg h

/-- Settles O15: a delivery that carries nothing is no delivery; any other takes the four steps. -/
theorem deliveryApplied : Obligations.DeliveryApplied := by
  intro d n
  by_cases hd : d = noDelivery
  case pos =>
    have hflags : n.flags ||| (0 : NoticeFlags) = n.flags := BitVec.or_zero
    subst hd
    rw [applyDelivery_none]
    exact ⟨hflags.symm, rfl, by simp [noDelivery], id, fun _ => rfl, fun _ h => absurd rfl h⟩
  case neg =>
    refine ⟨?flags, ?enables, fun i => ?members, applyDelivery_ascending d, fun hg => ?kept,
      fun hg _ => ?raised⟩
    all_goals rw [applyDelivery_of_ne hd]
    case flags => exact raiseTest_flags _
    case enables => exact raiseTest_enables _
    case members =>
      rw [raiseTest_changed, mem_foldl_addIndex]
      cases d.empties <;> simp
    case kept =>
      rw [raiseTest_gate]
      exact if_neg fun ⟨harmed, _⟩ => hg harmed
    case raised =>
      rw [raiseTest_gate]
      by_cases hz : (n.flags ||| d.flags) &&& n.enables = 0 <;> simp [hg, hz, enabledPending]

/-! ### Reads (R27, R41 to R44) -/

/-- A table command that changes nothing of the state is served with its answer alone. -/
theorem served_read {o : Opcode} {p : Port} {ps : List Byte} {s : State} {c : TableCmd} {a : Answer}
    {res : Option Index} (hq : quiet p s = true) (hlen : ps.length + 1 = expectedCount o)
    (hsup : supervisorOnly o = false) (hpath : commandPath (s.port p) o ps = .table c res)
    (hwork : runTableCmd p c s = (s, a, .plain)) :
    served (rowOf o p ps) s =
      .next (servedState p (opcodeByte o) ps.length (withHandle res a) (sentByte p s) s) :=
  served_work hq hlen (forAll_ports hsup) hpath hwork

/-- A table command served with what its operation makes of the state and answers. -/
theorem served_done {o : Opcode} {p : Port} {ps : List Byte} {s t : State} {c : TableCmd} {a : Answer}
    {res : Option Index} {w : State × Answer} (hq : quiet p s = true)
    (hlen : ps.length + 1 = expectedCount o) (hsup : supervisorOnly o = false)
    (hpath : commandPath (s.port p) o ps = .table c res) (hop : w = (t, a))
    (hwork : runTableCmd p c s = (w.1, w.2, .plain)) :
    served (rowOf o p ps) s =
      .next (servedState p (opcodeByte o) ps.length (withHandle res a) (sentByte p s) t) := by
  subst hop
  exact served_work hq hlen (forAll_ports hsup) hpath hwork

/-- Every entry is of exactly one of the three states. -/
theorem countStates (es : List Entry) :
    es.countP Entry.isLive + es.countP Entry.isRetired + es.countP Entry.isVacant = es.length := by
  induction es with
  | nil => rfl
  | cons e es ih =>
    simp only [List.countP_cons, List.length_cons, ← ih]
    cases hc : e.content <;>
      simp [Entry.isLive, Entry.isRetired, Entry.isVacant, Entry.live?, Entry.rec?, hc] <;> omega

/-- Settles O16: the fields as they stand; every entry is counted once. -/
theorem deviceStatusServed : Obligations.DeviceStatusServed := by
  refine ⟨fun p s hq => ?status, fun t => ?counts⟩
  case status =>
    have hstart : s.save.startup = false := by
      simp only [quietLink, Bool.and_eq_true, Bool.not_eq_eq_eq_not, Bool.not_true] at hq
      obtain ⟨⟨-, hstart⟩, -⟩ := hq
      exact hstart
    exact served_table (o := .getDeviceStatus) hq (judge_deviceStatus p hstart)
  case counts => exact (countStates t.toList).trans Vector.length_toList

theorem opFindTag_some {tag : Word} {s : State} {i : Index}
    (h : lookupTag tag s.table.tagIndex = some i) : opFindTag tag s = okWith [indexByte i] := by
  rw [opFindTag, h]

theorem opFindTag_none {tag : Word} {s : State} (h : lookupTag tag s.table.tagIndex = none) :
    opFindTag tag s = bare .notFound := by
  rw [opFindTag, h]

/-- Settles O17: each read answers its operation, on the index its path resolves. -/
theorem currentReadsServed : Obligations.CurrentReadsServed := by
  refine ⟨fun p s a b hq htag => ⟨fun i hi => ?found, fun hnone => ?missing⟩,
    fun p s hq => ⟨fun a => ?value, fun a h => ?handle⟩,
    fun p s a hq => ⟨?entry, fun h => ?slice⟩⟩
  case found =>
    rw [← opFindTag_some hi]
    exact served_read (o := .findTag) hq rfl rfl (findTag_path _ htag) rfl
  case missing =>
    rw [← opFindTag_none hnone]
    exact served_read (o := .findTag) hq rfl rfl (findTag_path _ htag) rfl
  case value => exact served_read (o := .readValue) hq rfl rfl rfl rfl
  case handle =>
    exact served_read (o := .readHandle) (ps := [a]) hq rfl rfl (handlePath_lt h (s.port p) .readValue) rfl
  case entry => exact served_read (o := .readEntry) hq rfl rfl rfl rfl
  case slice =>
    exact served_read (o := .readSlice) (ps := [a]) hq rfl rfl
      (pathOr_slice h fun sl => .table (.readSlice sl) none)
      rfl

end Sys2Proof.Proofs

/-! PROOF. Anchors, the versioned read, the vacate test and `next_changed` (R46, R47, R52, R53, R114 to
R117, R136). -/

namespace Sys2Proof.Proofs
open Sys2Proof.Machine

/-! ### Anchors (R46, R47, R53) -/

theorem opAnchorDrop_some {p : Port} {s : State} {a : Gen} (h : s.anchor p = some a) :
    opAnchorDrop p s = (vacateTest (stopAnchor p (s.setAnchor p none)), okWith (be32 a)) := by
  rw [opAnchorDrop, h]

theorem opAnchorDrop_none {p : Port} {s : State} (h : s.anchor p = none) :
    opAnchorDrop p s = (s, bare .noAnchor) := by
  rw [opAnchorDrop, h]

/-- Settles O19: the anchor commands by what the port holds, the anchored reads at its anchor. -/
theorem anchorsServed : Obligations.AnchorsServed := by
  refine ⟨fun p s hq => ⟨?set, fun a ha => ?drop, fun ha => ?dropNone⟩,
    fun p s hq => ⟨fun a => ?read, fun a h => ?handle⟩⟩
  case set => exact served_work (o := .anchorSet) hq rfl (forAll_ports rfl) rfl rfl
  case drop =>
    exact served_done (o := .anchorDrop) (ps := []) hq rfl rfl rfl (opAnchorDrop_some ha) rfl
  case dropNone =>
    exact served_done (o := .anchorDrop) (ps := []) hq rfl rfl rfl (opAnchorDrop_none ha) rfl
  case read => exact served_read (o := .readAnchored) hq rfl rfl rfl rfl
  case handle =>
    exact served_read (o := .readAnchoredHandle) (ps := [a]) hq rfl rfl
      (handlePath_lt h (s.port p) .readAnchored) rfl

/-! ### The versioned read (R52, R114) -/

section
variable {r : Rec} {q : Prior} {a rg : Gen}

/-- Step 3: the current value. -/
theorem versionOf_current (h : r.changedGen ≤ a) : versionOf r a = .found r.value r.changedGen :=
  if_pos h

/-- Step 4: the prior value. -/
theorem versionOf_prior (hp : r.prior = some q) (h : a < r.changedGen) (hq : q.gen ≤ a) :
    versionOf r a = .found q.value q.gen := by
  rw [versionOf, if_neg (BitVec.not_le.2 h), hp]
  exact if_pos hq

/-- Step 5: a value no longer kept. -/
theorem versionOf_stale (hp : r.prior = some q) (h : a < r.changedGen) (hq : a < q.gen) :
    versionOf r a = .stale q.gen := by
  rw [versionOf, if_neg (BitVec.not_le.2 h), hp]
  exact if_neg (BitVec.not_le.2 hq)

theorem versionedRead_unborn {c : Content} (hc : c = .live r ∨ ∃ rg, c = .retired r rg)
    (h : a < r.bornGen) : versionedRead c a = .absent := by
  obtain rfl | ⟨rg, rfl⟩ := hc
  · exact if_pos h
  · exact if_pos h

theorem versionedRead_retired (hb : r.bornGen ≤ a) (h : rg ≤ a) :
    versionedRead (.retired r rg) a = .retired rg :=
  (if_neg (BitVec.not_lt.2 hb)).trans (if_pos h)

/-- Steps 3 to 5 apply to a LIVE entry, and to a RETIRED one below its retirement. -/
theorem versionedRead_version {c : Content} (hc : c = .live r ∨ ∃ rg, c = .retired r rg ∧ a < rg)
    (hb : r.bornGen ≤ a) : versionedRead c a = versionOf r a := by
  obtain rfl | ⟨rg, rfl, hrg⟩ := hc
  · exact if_neg (BitVec.not_lt.2 hb)
  · exact (if_neg (BitVec.not_lt.2 hb)).trans (if_neg (BitVec.not_le.2 hrg))

end

/-- Settles O20: each step by its lemma; the four intervals of a RETIRED entry in their order. -/
theorem versionedRead : Obligations.VersionedRead := by
  refine ⟨fun a => ⟨rfl, fun r _ => ⟨fun c hc => versionedRead_unborn hc,
    fun rg hb h => versionedRead_retired hb h, fun c hc hb => ?steps⟩⟩, fun r q a hp hbq hqc => ?retired⟩
  case steps =>
    rw [versionedRead_version hc hb]
    exact ⟨versionOf_current, fun q hp h => ⟨versionOf_prior hp h, versionOf_stale hp h⟩⟩
  case retired =>
    by_cases hb : a < r.bornGen
    case pos => rw [if_pos hb]; exact versionedRead_unborn (.inr ⟨_, rfl⟩) hb
    rw [if_neg hb]
    have hborn := BitVec.not_lt.1 hb
    by_cases hc : a < r.changedGen
    case neg =>
      have hchanged := BitVec.not_lt.1 hc
      rw [if_neg (BitVec.not_lt.2 (BitVec.le_trans (BitVec.le_of_lt hqc) hchanged)), if_neg hc]
      exact versionedRead_retired hborn hchanged
    rw [versionedRead_version (.inr ⟨_, rfl, hc⟩) hborn, if_pos hc]
    split
    next h => exact versionOf_stale hp hc h
    next h => exact versionOf_prior hp hc (BitVec.not_lt.1 h)

/-! ### The vacate test (R115 to R117) -/

theorem isHeld_eq_false {as : List Gen} {g : Gen} (h : ∀ a ∈ as, g ≤ a) : isHeld as g = false := by
  simp only [isHeld, List.any_eq_false, decide_eq_true_eq]
  exact fun a ha => BitVec.not_lt.2 (h a ha)

theorem vacateTest_entry (s : State) (i : Index) :
    (vacateTest s).entry i = vacateEntry (heldAnchors s.table) (s.entry i) :=
  mapEntries_get _ _ i

/-- The vacate test leaves a VACANT entry VACANT. -/
theorem vacateEntry_vacant {as : List Gen} {e : Entry} (h : e.isVacant = true) :
    (vacateEntry as e).isVacant = true := by
  obtain ⟨r, g, -, -, he⟩ | ⟨-, he⟩ := vacateEntry_cases as e
  · rw [he]; rfl
  · rw [he]; exact h

theorem countP_vacated (as : List Gen) (es : List Entry) :
    es.countP (fun e => !e.isVacant && (vacateEntry as e).isVacant) + es.countP Entry.isVacant =
      (es.map (vacateEntry as)).countP Entry.isVacant := by
  induction es with
  | nil => rfl
  | cons e es ih =>
    simp only [List.map_cons, List.countP_cons, ← ih]
    cases h : e.isVacant with
    | true => simp [vacateEntry_vacant h]; omega
    | false => simp; omega

/-- The entries counted are those that become VACANT (R167). -/
theorem vacateCount_add (s : State) :
    vacateCount s + countEntries Entry.isVacant s.table.entries =
      countEntries Entry.isVacant (vacateTest s).table.entries :=
  countP_vacated (heldAnchors s.table) s.table.entries.toList

/-- Settles O21: entry by entry the test is `vacateEntry`, and it touches the entries alone. -/
theorem vacateTestApplied : Obligations.VacateTestApplied := by
  intro s
  refine ⟨fun i => ⟨fun r rg hc hfree => ?vacated, fun hheld => ?kept⟩, rfl, vacateCount_add s⟩
  all_goals rw [vacateTest_entry]
  case vacated =>
    obtain ⟨-, -, -, -, he⟩ | ⟨hall, -⟩ := vacateEntry_cases (heldAnchors s.table) (s.entry i)
    · exact he
    · exact nomatch (hall r rg hc).symm.trans (isHeld_eq_false hfree)
  case kept =>
    obtain ⟨r, g, hc, hfree, -⟩ | ⟨-, he⟩ := vacateEntry_cases (heldAnchors s.table) (s.entry i)
    · exact nomatch ((isHeld_iff _ g).2 (hheld r g hc)).symm.trans hfree
    · exact he

/-! ### `next_changed` (R136) -/

theorem opNextChanged_empty {p : Port} {s : State} (h : (s.notice p).changed = []) :
    opNextChanged p s = (s, bare .empty) := by
  rw [opNextChanged, h]

theorem opNextChanged_cons {p : Port} {s : State} {i : Index} {rest : IndexSet}
    (h : (s.notice p).changed = i :: rest) :
    opNextChanged p s = (s.setNotice p { s.notice p with changed := rest },
      okWith (changedPayload i (s.entry i))) := by
  rw [opNextChanged, h]

/-- The head of a set kept ascending is its lowest member. -/
theorem head_le_of_ascending {i : Index} {rest : IndexSet} (h : (i :: rest).Pairwise (· < ·)) :
    ∀ j ∈ i :: rest, i ≤ j := by
  rw [List.pairwise_cons] at h
  obtain ⟨hi, -⟩ := h
  exact List.forall_mem_cons.2 ⟨le_rfl, fun j hj => (hi j hj).le⟩

/-- Settles O37: the head of the changed set leaves it. -/
theorem nextChangedServed : Obligations.NextChangedServed := by
  intro p s hq
  refine ⟨fun h => ?empty, fun i rest h hasc => ⟨?lowest, ?member⟩⟩
  case empty =>
    exact served_done (o := .nextChanged) (ps := []) hq rfl rfl rfl (opNextChanged_empty h) rfl
  case lowest =>
    rw [h] at hasc ⊢
    exact head_le_of_ascending hasc
  case member =>
    refine (served_done (o := .nextChanged) (ps := []) hq rfl rfl rfl (opNextChanged_cons h) rfl).trans ?_
    simp only [changedPayload, Entry.rec?]
    cases (s.entry i).content <;> rfl

end Sys2Proof.Proofs

/-! PROOF. Subscriptions and the session end (R127 to R130, R167 to R169). -/

namespace Sys2Proof.Proofs
open Sys2Proof.Machine

/-! ### Subscriptions to one entry (R127, R129) -/

section
variable {p : Port} {i : Index} {s : State} {r : Rec} {rg : Gen}

theorem mapSubscribers_live {e : Entry} (f : PortSet → PortSet) (h : e.content = .live r) :
    e.mapSubscribers f = { e with content := .live { r with subscribers := f r.subscribers } } := by
  rw [Entry.mapSubscribers, h]

theorem mapSubscribers_retired {e : Entry} (f : PortSet → PortSet) (h : e.content = .retired r rg) :
    e.mapSubscribers f =
      { e with content := .retired { r with subscribers := f r.subscribers } rg } := by
  rw [Entry.mapSubscribers, h]

theorem hasSubscriber_of_rec {e : Entry} (h : e.rec? = some r) :
    e.hasSubscriber p = PortSet.has r.subscribers p := by
  rw [Entry.hasSubscriber, h]

theorem opSubscribe_live (h : (s.entry i).content = .live r) :
    opSubscribe p i s =
      (s.setEntry i ((s.entry i).mapSubscribers fun ps => PortSet.add ps p),
        okWith (be16 r.tag ++ be32 r.changedGen ++ [markByte (!PortSet.has r.subscribers p)])) := by
  simp only [opSubscribe, h]

theorem opSubscribe_retired (h : (s.entry i).content = .retired r rg) :
    opSubscribe p i s = (s, bare .retired) := by
  simp only [opSubscribe, h]

theorem opSubscribe_vacant (h : (s.entry i).content = .vacant) :
    opSubscribe p i s = (s, bare .vacant) := by
  simp only [opSubscribe, h]

theorem opUnsubscribe_rec (h : (s.entry i).rec? = some r) :
    opUnsubscribe p i s =
      (s.setEntry i ((s.entry i).mapSubscribers fun ps => PortSet.drop ps p),
        okWith [markByte (PortSet.has r.subscribers p)]) := by
  rw [← hasSubscriber_of_rec (p := p) h]
  simp only [opUnsubscribe, h]

theorem opUnsubscribe_vacant (h : (s.entry i).content = .vacant) :
    opUnsubscribe p i s = (s, bare .vacant) := by
  simp only [opUnsubscribe, Entry.rec?, h]

theorem rec_of_live {e : Entry} (h : e.content = .live r) : e.rec? = some r := by
  rw [Entry.rec?, h]

theorem rec_of_retired {e : Entry} (h : e.content = .retired r rg) : e.rec? = some r := by
  rw [Entry.rec?, h]

theorem markByte_not (b : Bool) : markByte (!b) = if b then 0 else 1 := by
  cases b <;> rfl

end

/-! ### Subscriptions to a slice (R9, R128) -/

theorem entriesOfSlice_eq (sl : Slice) :
    entriesOfSlice sl = (List.finRange 8).map (entryOfSlice sl) := rfl

theorem mem_entriesOfSlice (sl : Slice) (i : Index) :
    i ∈ entriesOfSlice sl ↔ i.val / 8 = sl.val := by
  rw [entriesOfSlice_eq, List.mem_map]
  constructor
  · rintro ⟨k, -, rfl⟩
    simp only [entryOfSlice]
    omega
  · intro h
    refine ⟨⟨i.val % 8, Nat.mod_lt _ (by decide)⟩, List.mem_finRange _, Fin.ext ?_⟩
    simp only [entryOfSlice]
    omega

theorem entriesOfSlice_nodup (sl : Slice) : (entriesOfSlice sl).Nodup := by
  rw [entriesOfSlice_eq]
  refine (List.nodup_finRange 8).map fun k l h => Fin.ext ?_
  have hval := congrArg Fin.val h
  simp only [entryOfSlice] at hval
  omega

/-- The port joins the entry itself if that is LIVE, and no other. -/
theorem subscribeLive_entry (p : Port) (s : State) (j i : Index) :
    (subscribeLive p s j).entry i =
      if i = j ∧ (s.entry i).isLive = true then
        (s.entry i).mapSubscribers fun ps => PortSet.add ps p
      else s.entry i := by
  unfold subscribeLive
  by_cases hij : i = j
  case pos =>
    subst hij
    by_cases hlive : (s.entry i).isLive = true
    · rw [if_pos hlive, if_pos ⟨rfl, hlive⟩, setEntry_entry]
    · rw [if_neg hlive, if_neg (not_and_of_not_right _ hlive)]
  case neg =>
    rw [if_neg (not_and_of_not_left _ hij)]
    split
    · exact setEntry_entry_ne s j i _ hij
    · rfl

theorem subscribeLive_foldl_entry (p : Port) (is : List Index) (hnodup : is.Nodup) (s : State)
    (i : Index) :
    (is.foldl (subscribeLive p) s).entry i =
      if i ∈ is ∧ (s.entry i).isLive = true then
        (s.entry i).mapSubscribers fun ps => PortSet.add ps p
      else s.entry i := by
  induction is generalizing s with
  | nil => simp
  | cons j js ih =>
    obtain ⟨hj, hjs⟩ := List.nodup_cons.1 hnodup
    rw [List.foldl_cons, ih hjs, subscribeLive_entry]
    by_cases hij : i = j
    · subst hij
      simp [hj]
    · simp [hij]

theorem opSubscribeSlice_eq (p : Port) (sl : Slice) (s : State) :
    opSubscribeSlice p sl s = ((entriesOfSlice sl).foldl (subscribeLive p) s,
      okWith [count8 ((entriesOfSlice sl).filter fun i => (s.entry i).isLive).length,
        count8 (((entriesOfSlice sl).filter fun i => (s.entry i).isLive).countP fun i =>
          !(s.entry i).hasSubscriber p)]) := rfl

/-- Settles O36: one entry by its state, a slice entry by entry, and the whole table at once. -/
theorem subscriptionsServed : Obligations.SubscriptionsServed := by
  refine ⟨fun p s a hq => ?one, fun p s hq => ⟨fun a h => ?slice, ?all⟩⟩
  case one =>
    have hsub {t : State} {b : Answer} (h : opSubscribe p a.toFin s = (t, b)) :=
      served_done (o := .subscribe) (ps := [a]) hq rfl rfl rfl h rfl
    have hunsub {t : State} {b : Answer} (h : opUnsubscribe p a.toFin s = (t, b)) :=
      served_done (o := .unsubscribe) (ps := [a]) hq rfl rfl rfl h rfl
    refine ⟨fun r hc => ⟨?_, ?_⟩, fun r rg hc => ⟨hsub (opSubscribe_retired hc), ?_⟩,
      fun hc => ⟨hsub (opSubscribe_vacant hc), hunsub (opUnsubscribe_vacant hc)⟩⟩
    · have hop := opSubscribe_live (p := p) hc
      rw [mapSubscribers_live _ hc, markByte_not] at hop
      exact hsub hop
    · have hop := opUnsubscribe_rec (p := p) (rec_of_live hc)
      rw [mapSubscribers_live _ hc] at hop
      exact hunsub hop
    · have hop := opUnsubscribe_rec (p := p) (rec_of_retired hc)
      rw [mapSubscribers_retired _ hc] at hop
      exact hunsub hop
  case slice =>
    obtain ⟨hframe, -⟩ := subscribeLive_foldl p (entriesOfSlice ⟨a.toNat, h⟩) s
    refine ⟨(entriesOfSlice ⟨a.toNat, h⟩).foldl (subscribeLive p) s, ?served, hframe, fun i => ?entry⟩
    case served =>
      rw [← entriesOfSlice_eq]
      exact served_done (o := .subscribeSlice) (ps := [a]) hq rfl rfl
        (pathOr_slice h fun sl => .table (.subscribeSlice sl) none)
        (opSubscribeSlice_eq p ⟨a.toNat, h⟩ s) rfl
    case entry =>
      rw [subscribeLive_foldl_entry p _ (entriesOfSlice_nodup _)]
      simp only [mem_entriesOfSlice]
      rfl
  case all =>
    exact ⟨dropSubscriber p s, served_work (o := .unsubscribeAll) hq rfl (forAll_ports rfl) rfl rfl,
      rfl, mapEntries_get _ _⟩

/-! ### The session end (R167 to R169) -/

theorem toList_eq_finRange (t : Entries) : t.toList = (List.finRange 256).map t.get := by
  refine List.ext_getElem (by simp) fun k h1 h2 => ?_
  simp [Vector.get_eq_getElem]

theorem countEntries_congr {f : Entry → Bool} {t t' : Entries} (h : ∀ i, f (t.get i) = f (t'.get i)) :
    countEntries f t = countEntries f t' := by
  rw [countEntries, countEntries, toList_eq_finRange, toList_eq_finRange, List.countP_map,
    List.countP_map]
  exact List.countP_congr fun i _ => by simp [h i]

/-- What the session end makes of an entry before the vacate test. -/
def disowned (p : Port) (items : List Item) (i : Index) (e : Entry) : Entry :=
  Entry.mapSubscribers (fun ps => PortSet.drop ps p)
    (if items.any (fun it => it.index == i) then { e with claim := none, waiters := noPorts }
    else { e with waiters := PortSet.drop e.waiters p })

theorem mapSubscribers_waiters (f : PortSet → PortSet) (g : PortSet → PortSet) (e : Entry) :
    { e.mapSubscribers f with waiters := g (e.mapSubscribers f).waiters } =
      Entry.mapSubscribers f { e with waiters := g e.waiters } := by
  obtain ⟨c, q, w⟩ := e
  cases c <;> rfl

theorem sessionEndWork_entry (p : Port) (s : State) (i : Index) :
    (sessionEndWork p s).entry i = disowned p (s.draft p) i (s.entry i) := by
  have hget : (emptied p s.table).entries.get i = _ := dropClaims_get (s.draft p) s.table.entries i
  have hentry : (sessionEndWork p s).entry i = _ := forgotten_get p
    { emptied p s.table with anchors := s.table.anchors.set p none } i
  rw [hentry, hget, mapSubscribers_waiters _ fun w => PortSet.drop w p, disowned]
  split
  · simp only [noPorts_drop]
    rfl
  · rfl

theorem mapSubscribers_isVacant (f : PortSet → PortSet) (e : Entry) :
    (e.mapSubscribers f).isVacant = e.isVacant := by
  unfold Entry.mapSubscribers Entry.isVacant
  cases h : e.content <;> simp [h]

theorem disowned_isVacant (p : Port) (items : List Item) (i : Index) (e : Entry) :
    (disowned p items i e).isVacant = e.isVacant := by
  rw [disowned, mapSubscribers_isVacant]
  split <;> rfl

theorem finishSession_table (p : Port) (re : Bool) (s : State) :
    (finishSession p re s).table = s.table := by
  cases re <;> rfl

theorem finishSession_timer (p : Port) (re : Bool) (s : State) :
    (finishSession p re s).timer = { s.timer with
      draftLife := s.timer.draftLife.set p 100
      anchorLife := s.timer.anchorLife.set p 50 } := by
  cases re <;> rfl

theorem finishSession_notice (p : Port) (re : Bool) (s : State) (q : Port) :
    (finishSession p re s).notice q = if re = true ∧ q = p then clearNotice else s.notice q := by
  cases re with
  | false => exact (if_neg (not_and_of_not_left _ Bool.false_ne_true)).symm
  | true => exact (setNotice_notice_if _ p q clearNotice).trans (by simp; rfl)

theorem finishSession_ports (p : Port) (re : Bool) (s : State) :
    (finishSession p re s).ports = s.ports.set p { s.port p with
      session := if re then .attached else .detached
      win0 := 0
      win1 := 1 } := by
  cases re <;> cases p <;> rfl

theorem finishSession_frame (p : Port) (re : Bool) (s : State) :
    (finishSession p re s).save = s.save ∧ (finishSession p re s).store = s.store ∧
      (finishSession p re s).nreset = s.nreset ∧ (finishSession p re s).freePick = s.freePick := by
  cases re <;> exact ⟨rfl, rfl, rfl, rfl⟩

theorem sessionEndWork_timer (p : Port) (s : State) : (sessionEndWork p s).timer = { s.timer with
    draftCount := s.timer.draftCount.set p .stopped
    anchorCount := s.timer.anchorCount.set p .stopped } := by
  simp [sessionEndWork, stopAnchor, stopDraft, setAnchorCount, setDraftCount, dropWaiter,
    dropSubscriber, emptyDraft_eq]

theorem sessionEndWork_notice (p : Port) (s : State) (q : Port) :
    (sessionEndWork p s).notice q =
      if q = p then clearNotice else (endClaims (s.draft p) s).notice q := by
  rw [State.notice, sessionEndWork_notices]
  exact setNotice_notice_if _ p q clearNotice

/-- The part as the session end leaves it, for a `detach` or an `attach` on an attached port. -/
def sessionEnded (p : Port) (re : Bool) (s : State) : State :=
  finishSession p re (vacateTest (sessionEndWork p s))

theorem sessionEnded_table (p : Port) (re : Bool) (s : State) :
    (sessionEnded p re s).table = vacated (sessionEndWork p s).table :=
  finishSession_table p re _

theorem sessionEnded_timer (p : Port) (re : Bool) (s : State) :
    (sessionEnded p re s).timer = { s.timer with
      draftLife := s.timer.draftLife.set p 100
      anchorLife := s.timer.anchorLife.set p 50
      draftCount := s.timer.draftCount.set p .stopped
      anchorCount := s.timer.anchorCount.set p .stopped } := by
  rw [sessionEnded, finishSession_timer]
  simp only [vacateTest, withEntries_timer, sessionEndWork_timer]

theorem sessionEnded_notice (p : Port) (re : Bool) (s : State) (q : Port) :
    (sessionEnded p re s).notice q =
      if q = p then clearNotice else (endClaims (s.draft p) s).notice q := by
  rw [sessionEnded, finishSession_notice, vacateTest, withEntries_notice, sessionEndWork_notice]
  by_cases h : q = p <;> simp [h]

theorem sessionEnded_ports (p : Port) (re : Bool) (s : State) :
    (sessionEnded p re s).ports = s.ports.set p { s.port p with
      session := if re then .attached else .detached
      win0 := 0
      win1 := 1 } := by
  have hports : (vacateTest (sessionEndWork p s)).ports = s.ports :=
    (SameButTable.sessionEndWork p s).ports
  rw [sessionEnded, finishSession_ports, State.port, hports]
  rfl

theorem sessionEnded_frame (p : Port) (re : Bool) (s : State) :
    (sessionEnded p re s).save = s.save ∧ (sessionEnded p re s).store = s.store ∧
      (sessionEnded p re s).nreset = s.nreset ∧ (sessionEnded p re s).freePick = s.freePick := by
  obtain ⟨hsave, hstore, hnreset, hpick⟩ :=
    finishSession_frame p re (vacateTest (sessionEndWork p s))
  have hwork := SameButTable.sessionEndWork p s
  exact ⟨hsave.trans hwork.save, hstore.trans hwork.store, hnreset.trans hwork.nreset,
    hpick.trans hwork.freePick⟩

/-- What `detach`, and `attach` on an attached port, answer (R168, R169). -/
def sessionEndAnswer (p : Port) (re : Bool) (s : State) : Answer :=
  okWith ((if re then [portByte p, if p = .P0 then 1 else 0, 1] else []) ++ sessionEndPayload p s)

theorem opSessionEnd_answer (p : Port) (re : Bool) (s : State) :
    (opSessionEnd p re s).2 = sessionEndAnswer p re s := by
  have hmark : markByte (p == .P0) = if p = .P0 then 1 else 0 := by cases p <;> rfl
  rw [sessionEndAnswer, ← hmark]
  rfl

theorem runTableCmd_sessionEnd (p : Port) (re : Bool) (s : State) :
    runTableCmd p (.sessionEnd re) s =
      (vacateTest (sessionEndWork p s), sessionEndAnswer p re s, .session p re) := by
  rw [← opSessionEnd_answer]
  rfl

theorem runFinish_session (p : Port) (re : Bool) (s : State) :
    runFinish (.session p re) (vacateTest (sessionEndWork p s)) = sessionEnded p re s := rfl

theorem served_detach {p : Port} {s : State} (hq : quiet p s = true) :
    served (.detach p []) s =
      .next (servedState p 0x11 0 (sessionEndAnswer p false s) (sentByte p s)
        (sessionEnded p false s)) := by
  rw [← runFinish_session]
  exact served_work (o := .detach) (ps := []) hq rfl (forAll_ports rfl) rfl
    (runTableCmd_sessionEnd p false s)

theorem served_attachAgain {p : Port} {s : State} (hq : quiet p s = true) :
    served (.attach p []) s =
      .next (servedState p 0x10 0 (sessionEndAnswer p true s) (sentByte p s)
        (sessionEnded p true s)) := by
  have hatt : s.attached p = true := by
    simp only [quiet, takesAttached, Bool.and_eq_true] at hq
    obtain ⟨⟨-, hatt⟩, -⟩ := hq
    exact hatt
  rw [← runFinish_session]
  exact served_work (o := .attach) (ps := []) hq rfl (forAll_ports rfl)
    (attach_path (session_of_attached hatt)) (runTableCmd_sessionEnd p true s)

theorem served_sessionEnd {p : Port} {s : State} (re : Bool) (hq : quiet p s = true) :
    served (if re then .attach p [] else .detach p []) s =
      .next (servedState p (if re then 0x10 else 0x11) 0 (sessionEndAnswer p re s) (sentByte p s)
        (sessionEnded p re s)) := by
  cases re with
  | false => exact served_detach hq
  | true => exact served_attachAgain hq

/-- The ports once a command is answered in a port that its work has changed as well. -/
theorem servedState_ports {p : Port} {s t : State} {u : PortUnit} (o : Byte) (n : Nat) (a : Answer)
    (sent : Byte) (h : t.ports = s.ports.set p u) :
    (servedState p o n a sent t).ports = s.ports.set p { u with
      link := .idle
      unit := none
      result := some { opcode := o, seq := u.seq + 1, answer := a }
      resultValid := true
      seq := u.seq + 1
      sdo := driven u (sent :: List.replicate n 0)
      sdoHeld := false } := by
  simp only [servedState, answeredState, withArbiter_ports, State.setPort, State.port, withPorts_ports,
    h, PerPort.get_set_same, PerPort.set_set]

/-- Settles O10: the state is `sessionEnded`, answered in the port. -/
theorem sessionEndServed : Obligations.SessionEndServed := by
  intro p s re hq
  obtain ⟨hsave, hstore, hnreset, hpick⟩ := sessionEnded_frame p re s
  refine ⟨_, vacateCount (sessionEndWork p s), served_sessionEnd re hq, fun i => ?entry, ?table,
    sessionEnded_timer p re s, ?notice, fun q hne => ?others, ?ports, ?count,
    rfl, hsave, hstore, hnreset, hpick⟩
  case entry =>
    have hentry : (sessionEnded p re s).entry i = (vacateTest (sessionEndWork p s)).entry i :=
      congrArg (fun t : TableController => t.entries.get i) (sessionEnded_table p re s)
    have hanchors : heldAnchors (sessionEnded p re s).table = heldAnchors (sessionEndWork p s).table :=
      (congrArg heldAnchors (sessionEnded_table p re s)).trans rfl
    refine hentry.trans ?_
    rw [vacateTest_entry, sessionEndWork_entry, ← hanchors]
    rfl
  case table =>
    have htable : (servedState p (if re then 0x10 else 0x11) 0 (sessionEndAnswer p re s) (sentByte p s)
      (sessionEnded p re s)).table = vacated (sessionEndWork p s).table := sessionEnded_table p re s
    rw [htable]
    rfl
  case notice => exact (sessionEnded_notice p re s p).trans (if_pos rfl)
  case others =>
    exact ((sessionEnded_notice p re s q).trans (if_neg hne)).trans (endClaims_notice _ _ _)
  case ports =>
    refine (servedState_ports _ _ _ _ (sessionEnded_ports p re s)).trans ?_
    simp only [sessionEndAnswer, sessionEndPayload, List.append_assoc]
    rfl
  case count =>
    have hvacant : countEntries Entry.isVacant (sessionEndWork p s).table.entries =
        countEntries Entry.isVacant s.table.entries :=
      countEntries_congr fun i =>
        (congrArg Entry.isVacant (sessionEndWork_entry p s i)).trans (disowned_isVacant _ _ _ _)
    have hcount := vacateCount_add (sessionEndWork p s)
    rw [hvacant, vacateTest_table, ← sessionEnded_table p re s] at hcount
    exact hcount

end Sys2Proof.Proofs

/-! PROOF. The stage commands (R63 to R67, R71, R73, R74): the tests in their order, the claim test, and
what a stage makes of the draft. -/

namespace Sys2Proof.Proofs
open Sys2Proof.Machine

/-! ### The tests on entry state and rights (R65 to R67) -/

section
variable {p : Port} {i : Index} {s : State} {r : Rec} {rg : Gen} {it : Item}

theorem entryStateTest_retired (h : (s.entry i).content = .retired r rg) :
    entryStateTest p i s = some .retired := by
  rw [entryStateTest, h]

theorem entryStateTest_live (h : (s.entry i).content = .live r) : entryStateTest p i s = none := by
  rw [entryStateTest, h]

theorem entryStateTest_vacant (h : (s.entry i).content = .vacant) :
    entryStateTest p i s = if ownDefine p i s then none else some .vacant := by
  rw [entryStateTest, h]

theorem ownDefine_of_item (h : itemFor (s.draft p) i = some it) : ownDefine p i s = it.isDefine := by
  rw [ownDefine, h]

theorem ownDefine_of_none (h : itemFor (s.draft p) i = none) : ownDefine p i s = false := by
  rw [ownDefine, h]

theorem live?_of_live {e : Entry} (h : e.content = .live r) : e.live? = some r := by
  rw [Entry.live?, h]

theorem live?_of_vacant {e : Entry} (h : e.content = .vacant) : e.live? = none := by
  rw [Entry.live?, h]

theorem writeRightTest_live (h : (s.entry i).content = .live r) :
    writeRightTest p i s = if PortSet.has r.writeSet p then none else some .noRight := by
  rw [writeRightTest, live?_of_live h]

theorem ownerTest_live (h : (s.entry i).content = .live r) :
    ownerTest p i s = if r.owner = p then none else some .noRight := by
  rw [ownerTest, live?_of_live h]

/-- The tests of a SET before the claim test. -/
def setTests (p : Port) (i : Index) (s : State) : Option Status :=
  (entryStateTest p i s).or (writeRightTest p i s)

/-- The tests of a REBOUND or RETIRE before its parameters and the claim test. -/
def ownerTests (p : Port) (i : Index) (s : State) : Option Status :=
  (entryStateTest p i s).or (ownerTest p i s)

theorem setTests_retired (h : (s.entry i).content = .retired r rg) :
    setTests p i s = some .retired := by
  rw [setTests, entryStateTest_retired h, Option.some_or]

theorem ownerTests_retired (h : (s.entry i).content = .retired r rg) :
    ownerTests p i s = some .retired := by
  rw [ownerTests, entryStateTest_retired h, Option.some_or]

theorem setTests_vacant (h : (s.entry i).content = .vacant) (hitem : itemFor (s.draft p) i = none) :
    setTests p i s = some .vacant := by
  rw [setTests, entryStateTest_vacant h, ownDefine_of_none hitem, if_neg Bool.false_ne_true,
    Option.some_or]

theorem ownerTests_vacant (h : (s.entry i).content = .vacant) (hitem : itemFor (s.draft p) i = none) :
    ownerTests p i s = some .vacant := by
  rw [ownerTests, entryStateTest_vacant h, ownDefine_of_none hitem, if_neg Bool.false_ne_true,
    Option.some_or]

theorem setTests_live (h : (s.entry i).content = .live r) :
    setTests p i s = if PortSet.has r.writeSet p then none else some .noRight := by
  rw [setTests, entryStateTest_live h, writeRightTest_live h, Option.none_or]

theorem ownerTests_live (h : (s.entry i).content = .live r) :
    ownerTests p i s = if r.owner = p then none else some .noRight := by
  rw [ownerTests, entryStateTest_live h, ownerTest_live h, Option.none_or]

theorem setTests_ownDefine (h : (s.entry i).content = .vacant)
    (hitem : itemFor (s.draft p) i = some it) (hdef : it.isDefine = true) : setTests p i s = none := by
  rw [setTests, entryStateTest_vacant h, ownDefine_of_item hitem, if_pos hdef, Option.none_or,
    writeRightTest, live?_of_vacant h]

theorem ownerTests_ownDefine (h : (s.entry i).content = .vacant)
    (hitem : itemFor (s.draft p) i = some it) (hdef : it.isDefine = true) :
    ownerTests p i s = none := by
  rw [ownerTests, entryStateTest_vacant h, ownDefine_of_item hitem, if_pos hdef, Option.none_or,
    ownerTest, live?_of_vacant h]

/-- A LIVE entry with the port's right, or the port's own DEFINE, passes the tests of a SET. -/
theorem setTests_of_entry (hitem : itemFor (s.draft p) i = some it)
    (h : (∃ r, (s.entry i).content = .live r ∧ PortSet.has r.writeSet p = true) ∨
      ((s.entry i).content = .vacant ∧ it.isDefine = true)) : setTests p i s = none := by
  obtain ⟨r, hc, hright⟩ | ⟨hc, hdef⟩ := h
  · exact (setTests_live hc).trans (if_pos hright)
  · exact setTests_ownDefine hc hitem hdef

/-! ### The claim test and the accepted stages (R62 to R64, R71, R73, R74) -/

theorem otherClaimant_other {q : Port} (h : (s.entry i).claim = some q) (hne : p ≠ q) :
    otherClaimant p i s = some q := by
  rw [otherClaimant, h]
  exact if_neg (Ne.symm hne)

theorem otherClaimant_free (h : (s.entry i).claim = none ∨ (s.entry i).claim = some p) :
    otherClaimant p i s = none := by
  obtain h | h := h
  · rw [otherClaimant, h]
  · rw [otherClaimant, h]
    exact if_pos rfl

theorem stageNew_full {ch : Change} (h : 16 ≤ (s.draft p).length) :
    stageNew p i ch s = (s, bare .draftFull) :=
  if_pos (decide_eq_true h)

/-- A new item in the draft of `s`: the item, the claim and the restarted countdown. -/
def withItem (p : Port) (i : Index) (ch : Change) (s : State) : State :=
  (s.withTable { s.table with
    drafts := s.table.drafts.set p (s.draft p ++ [{ index := i, change := ch }])
    entries := s.table.entries.set i.val { s.entry i with claim := some p } i.isLt }).withTimer
    { s.timer with
      draftCount := s.timer.draftCount.set p (restartCount (s.timer.draftLife.get p)) }

theorem stageNew_room {ch : Change} (h : (s.draft p).length < 16) :
    stageNew p i ch s = (withItem p i ch s,
      okWith [count8 ((s.draft p).length + 1), changeByte ch, count8 ((s.draft p).length + 1)]) :=
  if_neg fun hfull => Nat.not_le.2 h (of_decide_eq_true hfull)

/-- The item for an entry changed in its place, and the restarted countdown. -/
def withMerged (p : Port) (i : Index) (ch : Change) (s : State) : State :=
  (s.setDraft p ((s.draft p).map fun x => if x.index = i then { x with change := ch } else x)).withTimer
    { s.timer with
      draftCount := s.timer.draftCount.set p (restartCount (s.timer.draftLife.get p)) }

theorem stageMerged_eq (p : Port) (i : Index) (ch : Change) (s : State) :
    stageMerged p i ch s = (withMerged p i ch s,
      okWith [count8 (positionOf (s.draft p) i), changeByte ch, count8 (s.draft p).length]) := rfl

section
variable {merge : Change → Option Change} {fresh : Change}

theorem stageChange_claimed {q : Port} (h : (s.entry i).claim = some q) (hne : p ≠ q) :
    stageChange p i merge fresh s = refuseClaimed p q i s := by
  simp only [stageChange, otherClaimant_other h hne]

theorem stageChange_merged {ch : Change} (h : (s.entry i).claim = some p)
    (hitem : itemFor (s.draft p) i = some it) (hmerge : merge it.change = some ch) :
    stageChange p i merge fresh s = stageMerged p i ch s := by
  simp only [stageChange, otherClaimant_free (.inr h), hitem, hmerge]

theorem stageChange_conflict (h : (s.entry i).claim = some p)
    (hitem : itemFor (s.draft p) i = some it) (hmerge : merge it.change = none) :
    stageChange p i merge fresh s = (s, bare .itemConflict) := by
  simp only [stageChange, otherClaimant_free (.inr h), hitem, hmerge]

theorem stageChange_new (h : (s.entry i).claim = none ∨ (s.entry i).claim = some p)
    (hitem : itemFor (s.draft p) i = none) :
    stageChange p i merge fresh s = stageNew p i fresh s := by
  simp only [stageChange, otherClaimant_free h, hitem]

end

/-! ### The stage commands by their tests (R65 to R67) -/

theorem opStageSet_refused {v : Word} {st : Status} (h : setTests p i s = some st) :
    opStageSet p i v s = (s, bare st) := by
  rw [setTests] at h
  simp only [opStageSet, h]

theorem opStageSet_passed {v : Word} (h : setTests p i s = none) :
    opStageSet p i v s = stageChange p i (mergeSet v) (.set v) s := by
  rw [setTests] at h
  simp only [opStageSet, h]

theorem opStageRetire_refused {st : Status} (h : ownerTests p i s = some st) :
    opStageRetire p i s = (s, bare st) := by
  rw [ownerTests] at h
  simp only [opStageRetire, h]

theorem opStageRetire_claimed {q : Port} (h : ownerTests p i s = none)
    (hclaim : (s.entry i).claim = some q) (hne : p ≠ q) :
    opStageRetire p i s = refuseClaimed p q i s := by
  rw [ownerTests] at h
  simp only [opStageRetire, h, otherClaimant_other hclaim hne]

theorem opStageRetire_withdraws (h : ownerTests p i s = none) (hclaim : (s.entry i).claim = some p)
    (hitem : itemFor (s.draft p) i = some it) (hdef : it.isDefine = true) :
    opStageRetire p i s = withdrawDefine p i s := by
  rw [ownerTests] at h
  simp only [opStageRetire, h, otherClaimant_free (.inr hclaim), hitem, hdef, if_true]

theorem opStageRetire_merged (h : ownerTests p i s = none) (hclaim : (s.entry i).claim = some p)
    (hitem : itemFor (s.draft p) i = some it) (hdef : it.isDefine = false) :
    opStageRetire p i s = stageMerged p i .retire s := by
  rw [ownerTests] at h
  simp only [opStageRetire, h, otherClaimant_free (.inr hclaim), hitem, hdef]
  exact if_neg Bool.false_ne_true

theorem opStageRetire_new (h : ownerTests p i s = none)
    (hclaim : (s.entry i).claim = none ∨ (s.entry i).claim = some p)
    (hitem : itemFor (s.draft p) i = none) :
    opStageRetire p i s = stageNew p i .retire s := by
  rw [ownerTests] at h
  simp only [opStageRetire, h, otherClaimant_free hclaim, hitem]

/-! ### The parameters of a REBOUND (R66, R195) -/

theorem markOf_lt {m : Byte} (h : m.toNat < 2) : markOf m = some (decide (m = 1)) := by
  have hm : m = 0 ∨ m = 1 := by bv_omega
  obtain rfl | rfl := hm <;> rfl

theorem markOf_gt {m : Byte} (h : 1 < m.toNat) : markOf m = none := by
  have h0 : m ≠ 0 := by bv_omega
  have h1 : m ≠ 1 := by bv_omega
  rw [markOf, if_neg h0, if_neg h1]

theorem reboundParams_good {k : Kind} {lo hi v : Word} {m : Byte} (hle : leIn k lo hi = true)
    (hm : m.toNat < 2) : reboundParams k lo hi m v = some (if m = 1 then some v else none) := by
  simp only [reboundParams, markOf_lt hm, hle, if_true, decide_eq_true_eq]

theorem reboundParams_bad {k : Kind} {lo hi v : Word} {m : Byte}
    (h : 1 < m.toNat ∨ leIn k lo hi = false) : reboundParams k lo hi m v = none := by
  by_cases hm : 1 < m.toNat
  · simp only [reboundParams, markOf_gt hm]
  · have hle := h.resolve_left hm
    simp only [reboundParams, markOf_lt (Nat.lt_of_not_le hm), hle]
    exact if_neg Bool.false_ne_true

theorem reboundKind_live (h : (s.entry i).content = .live r) : reboundKind p i s = r.kind := by
  simp only [reboundKind, rec_of_live h]

theorem reboundKind_define {d : Definition} (h : (s.entry i).content = .vacant)
    (hitem : itemFor (s.draft p) i = some it) (hdef : it.change = .define d) :
    reboundKind p i s = d.kind := by
  obtain ⟨k, c⟩ := it
  subst hdef
  simp only [reboundKind, Entry.rec?, h, hitem]

theorem isDefine_of_change {d : Definition} (h : it.change = .define d) : it.isDefine = true := by
  rw [Item.isDefine, h]

/-- A LIVE entry that the port owns, or the port's own DEFINE, passes the tests of a REBOUND, whose
bounds are compared in its kind. -/
theorem reboundTests_of_entry {kind : Kind} (hitem : itemFor (s.draft p) i = some it)
    (h : (∃ r, (s.entry i).content = .live r ∧ r.owner = p ∧ r.kind = kind) ∨
      ((s.entry i).content = .vacant ∧ ∃ d, it.change = .define d ∧ d.kind = kind)) :
    ownerTests p i s = none ∧ reboundKind p i s = kind := by
  obtain ⟨r, hc, howner, hkind⟩ | ⟨hc, d, hdef, hkind⟩ := h
  · exact ⟨(ownerTests_live hc).trans (if_pos howner), (reboundKind_live hc).trans hkind⟩
  · exact ⟨ownerTests_ownDefine hc hitem (isDefine_of_change hdef),
      (reboundKind_define hc hitem hdef).trans hkind⟩

section
variable {lo hi v : Word} {m : Byte}

theorem opStageRebound_refused {st : Status} (h : ownerTests p i s = some st) :
    opStageRebound p i lo hi m v s = (s, bare st) := by
  rw [ownerTests] at h
  simp only [opStageRebound, h]

theorem opStageRebound_badParam (h : ownerTests p i s = none)
    (hbad : reboundParams (reboundKind p i s) lo hi m v = none) :
    opStageRebound p i lo hi m v s = (s, bare .badParam) := by
  rw [ownerTests] at h
  simp only [opStageRebound, h, hbad]

theorem opStageRebound_passed {y : Option Word} (h : ownerTests p i s = none)
    (hgood : reboundParams (reboundKind p i s) lo hi m v = some y) :
    opStageRebound p i lo hi m v s =
      stageChange p i (mergeRebound lo hi y) (.rebound lo hi y) s := by
  rw [ownerTests] at h
  simp only [opStageRebound, h, hgood]

end
end

/-! ### The stage commands served (R36, R63) -/

section
variable {p : Port} {s t : State} {ans : Answer} (hq : quiet p s = true)
include hq

theorem served_stageSet {a b c : Byte} (h : opStageSet p a.toFin (b ++ c) s = (t, ans)) :
    served (.stageSet p [a, b, c]) s = .next (servedState p 0x30 3 ans (sentByte p s) t) :=
  served_done (o := .stageSet) (ps := [a, b, c]) hq rfl rfl rfl h rfl

theorem served_stageRebound {a b c d e m v w : Byte}
    (h : opStageRebound p a.toFin (b ++ c) (d ++ e) m (v ++ w) s = (t, ans)) :
    served (.stageRebound p [a, b, c, d, e, m, v, w]) s =
      .next (servedState p 0x33 8 ans (sentByte p s) t) :=
  served_done (o := .stageRebound) (ps := [a, b, c, d, e, m, v, w]) hq rfl rfl rfl h rfl

theorem served_stageRetire {a : Byte} (h : opStageRetire p a.toFin s = (t, ans)) :
    served (.stageRetire p [a]) s = .next (servedState p 0x34 1 ans (sentByte p s) t) :=
  served_done (o := .stageRetire) (ps := [a]) hq rfl rfl rfl h rfl

end

/-- Settles O22: the merge table by its rows, and each stage by its tests and the merge. -/
theorem stageMerges : Obligations.StageMerges := by
  refine ⟨fun v w lo hi lo' hi' d x y => ?table, fun p s a b c it hq hclaim hitem =>
    ⟨fun hentry => ⟨fun ch hmerge => ?setMerged, fun hretire => ?setConflict⟩,
      fun kind d e m v w hentry hle hm => ⟨fun ch hmerge => ?reboundMerged, fun hretire => ?reboundConflict⟩,
      fun r hc howner hdef => ?retireMerged⟩⟩
  case table => cases y <;> exact ⟨rfl, rfl, rfl, rfl, rfl, rfl, rfl, rfl⟩
  case setMerged =>
    have hpass := setTests_of_entry hitem hentry
    refine served_stageSet hq ((opStageSet_passed hpass).trans ?_)
    exact (stageChange_merged hclaim hitem hmerge).trans (stageMerged_eq _ _ _ _)
  case setConflict =>
    have hpass := setTests_of_entry hitem hentry
    refine served_stageSet hq ((opStageSet_passed hpass).trans ?_)
    exact stageChange_conflict hclaim hitem (by rw [hretire]; rfl)
  case reboundMerged =>
    obtain ⟨hpass, hkind⟩ := reboundTests_of_entry hitem hentry
    have hgood := hkind ▸ reboundParams_good (v := v ++ w) hle hm
    refine served_stageRebound hq ((opStageRebound_passed hpass hgood).trans ?_)
    exact (stageChange_merged hclaim hitem hmerge).trans (stageMerged_eq _ _ _ _)
  case reboundConflict =>
    obtain ⟨hpass, hkind⟩ := reboundTests_of_entry hitem hentry
    have hgood := hkind ▸ reboundParams_good (v := v ++ w) hle hm
    refine served_stageRebound hq ((opStageRebound_passed hpass hgood).trans ?_)
    exact stageChange_conflict hclaim hitem (by rw [hretire]; rfl)
  case retireMerged =>
    have hpass : ownerTests p a.toFin s = none := (ownerTests_live hc).trans (if_pos howner)
    exact served_stageRetire hq
      ((opStageRetire_merged hpass hclaim hitem hdef).trans (stageMerged_eq _ _ _ _))

end Sys2Proof.Proofs

/-! PROOF. Stages that create an item, that withdraw a DEFINE or that are refused, and the views and
removals of the draft (R36, R64 to R67, R71, R74 to R77). -/

namespace Sys2Proof.Proofs
open Sys2Proof.Machine

/-! ### Stages on an entry without an item (R62, R64, R73) -/

section
variable {p : Port} {i : Index} {s : State} {r : Rec}

theorem opStageSet_new {v : Word} (h : setTests p i s = none)
    (hclaim : (s.entry i).claim = none ∨ (s.entry i).claim = some p)
    (hitem : itemFor (s.draft p) i = none) : opStageSet p i v s = stageNew p i (.set v) s :=
  (opStageSet_passed h).trans (stageChange_new hclaim hitem)

theorem opStageRebound_new {lo hi v : Word} {m : Byte} (hc : (s.entry i).content = .live r)
    (howner : r.owner = p) (hclaim : (s.entry i).claim = none ∨ (s.entry i).claim = some p)
    (hitem : itemFor (s.draft p) i = none) (hle : leIn r.kind lo hi = true) (hm : m.toNat < 2) :
    opStageRebound p i lo hi m v s =
      stageNew p i (.rebound lo hi (if m = 1 then some v else none)) s := by
  have hpass : ownerTests p i s = none := (ownerTests_live hc).trans (if_pos howner)
  rw [← reboundKind_live (p := p) hc] at hle
  exact (opStageRebound_passed hpass (reboundParams_good hle hm)).trans (stageChange_new hclaim hitem)

end

theorem indexOf_indexByte (i : Index) : indexOf (indexByte i) = i := by
  refine Fin.ext ?_
  simp only [indexOf, indexByte, BitVec.val_toFin, BitVec.toNat_ofNat]
  omega

/-- Settles O23: the tests passed, a stage is `stageNew`; a handle form is the stage at the index it
resolves to. -/
theorem stageCreatesItem : Obligations.StageCreatesItem := by
  refine ⟨fun p s a b c d e r hq hc hclaim hitem hroom => ?creates, fun p s a b c h hq => ?handle⟩
  case creates =>
    refine ⟨fun hright => ?set, fun howner hle => ⟨fun v w => ?reboundBounds, fun v w => ?reboundValue⟩,
      fun howner => ?retire⟩
    case set =>
      have hpass : setTests p a.toFin s = none := (setTests_live hc).trans (if_pos hright)
      exact served_stageSet hq ((opStageSet_new hpass hclaim hitem).trans (stageNew_room hroom))
    case reboundBounds =>
      exact served_stageRebound hq ((opStageRebound_new hc howner hclaim hitem hle (by decide)).trans
        (stageNew_room hroom))
    case reboundValue =>
      exact served_stageRebound hq ((opStageRebound_new hc howner hclaim hitem hle (by decide)).trans
        (stageNew_room hroom))
    case retire =>
      have hpass : ownerTests p a.toFin s = none := (ownerTests_live hc).trans (if_pos howner)
      exact served_stageRetire hq ((opStageRetire_new hpass hclaim hitem).trans (stageNew_room hroom))
  case handle =>
    have hbyte : (indexByte (resolveHandle (s.port p).win0 (s.port p).win1 ⟨a.toNat, h⟩)).toFin =
        resolveHandle (s.port p).win0 (s.port p).win1 ⟨a.toNat, h⟩ := indexOf_indexByte _
    refine ⟨(opStageSet p (resolveHandle (s.port p).win0 (s.port p).win1 ⟨a.toNat, h⟩) (b ++ c) s).1,
      (opStageSet p (resolveHandle (s.port p).win0 (s.port p).win1 ⟨a.toNat, h⟩) (b ++ c) s).2, ?_, ?_⟩
    · exact served_stageSet hq (by rw [hbyte])
    · exact served_done (o := .stageSetHandle) (ps := [a, b, c]) hq rfl rfl
        (handlePath_lt h (s.port p) fun i => .stageSet i (b ++ c)) rfl rfl

/-! ### An item taken out of the draft (R62, R75) -/

section
variable {p : Port} {i : Index} {s : State} {it : Item}

/-- The items of a draft for one entry that has one, seen through the entry alone. -/
theorem any_filter_index {d : List Item} (h : itemFor d i = some it) (f : Index → Bool) :
    ((d.filter fun x => x.index == i).any fun x => f x.index) = f i := by
  obtain ⟨hmem, hindex⟩ := ClaimsAgree.itemFor_some h
  rw [Bool.eq_iff_iff, List.any_eq_true]
  constructor
  · rintro ⟨x, hx, hf⟩
    obtain ⟨-, hi⟩ := List.mem_filter.1 hx
    rwa [eq_of_beq hi] at hf
  · intro hf
    exact ⟨it, List.mem_filter.2 ⟨hmem, beq_iff_eq.2 hindex⟩, hindex ▸ hf⟩

theorem entries_ext {t u : Entries} (h : ∀ i, t.get i = u.get i) : t = u :=
  Vector.ext fun k hk => h ⟨k, hk⟩

/-- The claim of one entry ends (R75). -/
theorem dropClaims_one {d : List Item} (t : Entries) (h : itemFor d i = some it) :
    dropClaims t (d.filter fun x => x.index == i) =
      t.set i.val { t.get i with claim := none, waiters := noPorts } i.isLt := by
  refine entries_ext fun j => ?_
  rw [dropClaims_get, get_set_entries, any_filter_index h fun k => k == j]
  by_cases hj : j = i
  · subst hj
    rw [if_pos rfl, if_pos (beq_self_eq_true j)]
  · rw [if_neg hj, if_neg fun hji => hj (eq_of_beq hji).symm]

theorem takeOut_eq_table (h : itemFor (s.draft p) i = some it) :
    (takeOut p i s).table = { s.table with
      drafts := s.table.drafts.set p ((s.draft p).filter fun x => x.index != i)
      entries := s.table.entries.set i.val
        { s.entry i with claim := none, waiters := noPorts } i.isLt } := by
  have hentries : (takeOut p i s).table.entries = _ := dropClaims_one s.table.entries h
  have hrest : (takeOut p i s).table = { s.table with
      drafts := s.table.drafts.set p ((s.draft p).filter fun x => x.index != i)
      entries := (takeOut p i s).table.entries } := rfl
  rw [hrest, hentries]
  rfl

theorem takeOut_notice (h : itemFor (s.draft p) i = some it) (q : Port) :
    (takeOut p i s).notice q = if s.attached q && PortSet.has (s.entry i).waiters q then
      raiseTest { s.notice q with flags := (s.notice q).flags ||| flagFREE } else s.notice q := by
  have hnotice : (takeOut p i s).notice q = _ :=
    endClaims_notice ((s.draft p).filter fun x => x.index == i) s q
  rw [hnotice, any_filter_index h fun j => PortSet.has (s.entry j).waiters q]

end

/-- The items a draft keeps when the item for an entry leaves it. -/
def keptItems (p : Port) (i : Index) (s : State) : List Item :=
  (s.draft p).filter fun x => x.index != i

/-- The part once a DEFINE is withdrawn: the countdown restarts, or stops when the draft is left empty. -/
def withdrawnState (p : Port) (i : Index) (s : State) : State :=
  setDraftCount (takeOut p i s) p
    (if keptItems p i s = [] then .stopped else restartCount (s.timer.draftLife.get p))

theorem withdrawnState_frame (p : Port) (i : Index) (s : State) :
    let t := withdrawnState p i s
    t.table = (takeOut p i s).table ∧ t.notices = (takeOut p i s).notices ∧
    t.timer = { s.timer with
      draftCount := s.timer.draftCount.set p
        (if keptItems p i s = [] then .stopped else restartCount (s.timer.draftLife.get p)) } ∧
    t.ports = s.ports ∧ t.save = s.save ∧ t.store = s.store ∧ t.nreset = s.nreset ∧
    t.freePick = s.freePick :=
  ⟨rfl, rfl, rfl, rfl, rfl, rfl, rfl, rfl⟩

theorem withdrawDefine_eq (p : Port) (i : Index) (s : State) : withdrawDefine p i s =
    (withdrawnState p i s,
      okWith [count8 (positionOf (s.draft p) i), 0, count8 (keptItems p i s).length]) := by
  have hstate : (withdrawDefine p i s).1 = withdrawnState p i s := by
    unfold withdrawnState
    by_cases h : keptItems p i s = []
    · rw [if_pos h]
      exact if_pos (List.isEmpty_iff.2 h)
    · rw [if_neg h]
      exact if_neg (mt List.isEmpty_iff.1 h)
  rw [← hstate]
  rfl

theorem opDraftRemove_none {p : Port} {i : Index} {s : State} (h : itemFor (s.draft p) i = none) :
    opDraftRemove p i s = (s, { status := .noItem, payload := [count8 (s.draft p).length] }) := by
  simp only [opDraftRemove, h]

/-- The part once an item is removed: the countdown stops only when the draft is left empty. -/
def removedState (p : Port) (i : Index) (s : State) : State :=
  if keptItems p i s = [] then stopDraft p (takeOut p i s) else takeOut p i s

theorem removedState_frame (p : Port) (i : Index) (s : State) :
    let t := removedState p i s
    t.table = (takeOut p i s).table ∧ t.notices = (takeOut p i s).notices ∧
    t.timer = (if keptItems p i s = [] then
      { s.timer with draftCount := s.timer.draftCount.set p .stopped } else s.timer) ∧
    t.ports = s.ports ∧ t.save = s.save ∧ t.store = s.store ∧ t.nreset = s.nreset ∧
    t.freePick = s.freePick := by
  by_cases h : keptItems p i s = []
  · rw [removedState, if_pos h, if_pos h]
    exact ⟨rfl, rfl, rfl, rfl, rfl, rfl, rfl, rfl⟩
  · rw [removedState, if_neg h, if_neg h]
    exact ⟨rfl, rfl, rfl, rfl, rfl, rfl, rfl, rfl⟩

theorem opDraftRemove_some {p : Port} {i : Index} {s : State} {it : Item}
    (h : itemFor (s.draft p) i = some it) : opDraftRemove p i s =
      (removedState p i s,
        okWith [count8 (positionOf (s.draft p) i), changeByte it.change,
          count8 (keptItems p i s).length]) := by
  simp only [opDraftRemove, h, List.isEmpty_iff]
  rfl

theorem opDraftView_some {p : Port} {k : Byte} {s : State} {it : Item}
    (h : (s.draft p)[k.toNat - 1]? = some it) : opDraftView p k s =
      okWith ([count8 (s.draft p).length, k, indexByte it.index, changeByte it.change] ++
        changeBytes it.change ++ lifeBytes (s.timer.draftCount.get p)) := by
  simp only [opDraftView, h]

theorem opDraftView_none {p : Port} {k : Byte} {s : State} (h : (s.draft p)[k.toNat - 1]? = none) :
    opDraftView p k s = { status := .noItem, payload := [count8 (s.draft p).length] } := by
  simp only [opDraftView, h]

theorem served_draftView {p : Port} {s : State} {a : Byte} {ans : Answer} (hq : quiet p s = true)
    (hne : a ≠ 0) (hle : a.toNat ≤ 16) (h : opDraftView p a s = ans) :
    served (.draftView p [a]) s = .next (servedState p 0x38 1 ans (sentByte p s) s) := by
  subst h
  exact served_read (o := .draftView) hq rfl rfl (draftView_path _ hne hle) rfl

theorem served_draftRemove {p : Port} {s t : State} {a : Byte} {ans : Answer} (hq : quiet p s = true)
    (h : opDraftRemove p a.toFin s = (t, ans)) :
    served (.draftRemove p [a]) s = .next (servedState p 0x39 1 ans (sentByte p s) t) :=
  served_done (o := .draftRemove) (ps := [a]) hq rfl rfl rfl h rfl

/-- Settles O24: the withdrawal is the item taken out, with the countdown restarted or stopped. -/
theorem defineWithdrawn : Obligations.DefineWithdrawn := by
  intro p s a it hq hc hclaim hitem hdef
  have hpass := ownerTests_ownDefine hc hitem hdef
  have hentry : ({ s.entry a.toFin with claim := none, waiters := noPorts } : Entry) =
      { content := .vacant, claim := none, waiters := noPorts } := by simp only [hc]
  have htable := takeOut_eq_table hitem
  rw [hentry] at htable
  obtain ⟨hframe, hnotices, htimer, hports, hsave, hstore, hnreset, hpick⟩ :=
    withdrawnState_frame p a.toFin s
  refine ⟨withdrawnState p a.toFin s, served_stageRetire hq
    ((opStageRetire_withdraws hpass hclaim hitem hdef).trans (withdrawDefine_eq p a.toFin s)),
    hframe.trans htable, htimer, fun q => ?_, hports, hsave, hstore, hnreset, hpick⟩
  rw [State.notice, hnotices]
  exact takeOut_notice hitem q

/-- Settles O28: the view at the position, and the item taken out or not found. -/
theorem draftViewAndRemove : Obligations.DraftViewAndRemove := by
  constructor
  · intro p s a hq hne hle
    refine ⟨fun it hit => ?view, fun hlen => ?noView⟩
    case view =>
      refine (served_draftView hq hne hle (opDraftView_some hit)).trans ?_
      cases s.timer.draftCount.get p <;> rfl
    case noView =>
      have hpos : 1 ≤ a.toNat := by bv_omega
      exact served_draftView hq hne hle (opDraftView_none (List.getElem?_eq_none (by omega)))
  · intro p s a hq
    refine ⟨fun hnone => ?noItem, fun it hitem => ?removed⟩
    case noItem => exact served_draftRemove hq (opDraftRemove_none hnone)
    case removed =>
      obtain ⟨htable, hnotices, htimer, hports, hsave, hstore, hnreset, hpick⟩ :=
        removedState_frame p a.toFin s
      refine ⟨removedState p a.toFin s, served_draftRemove hq (opDraftRemove_some hitem),
        htable.trans (takeOut_eq_table hitem), htimer, fun q => ?_, hports, hsave, hstore, hnreset, hpick⟩
      rw [State.notice, hnotices]
      exact takeOut_notice hitem q

/-! ### `stage_define` at an index and by allocation (R69, R70) -/

section
variable {p : Port} {i : Index} {d : Definition} {s : State} {ps : List Byte} {r : Rec} {rg : Gen}

theorem served_stageDefine {t : State} {ans : Answer} (hq : quiet p s = true) (hlen : ps.length = 19)
    (h : opStageDefine p ps s = (t, ans)) :
    served (.stageDefine p ps) s = .next (servedState p 0x32 19 ans (sentByte p s) t) := by
  rw [← hlen]
  exact served_done (o := .stageDefine) hq (congrArg (· + 1) hlen) rfl rfl h rfl

theorem opStageDefine_badParam (h : defineParams p ps = none) :
    opStageDefine p ps s = (s, bare .badParam) := by
  simp only [opStageDefine, h]

theorem opStageDefine_at (h : defineParams p ps = some (some i, d)) :
    opStageDefine p ps s = stageDefineAt p i d s := by
  simp only [opStageDefine, h]

theorem opStageDefine_any (h : defineParams p ps = some (none, d)) :
    opStageDefine p ps s = stageDefineAny p d s := by
  simp only [opStageDefine, h]

theorem stageDefineAt_retired (h : (s.entry i).content = .retired r rg) :
    stageDefineAt p i d s = (s, bare .retired) := by
  simp only [stageDefineAt, h]

theorem stageDefineAt_live (h : (s.entry i).content = .live r) :
    stageDefineAt p i d s = (s, bare .noRight) := by
  simp only [stageDefineAt, h]

theorem stageDefineAt_own (h : (s.entry i).content = .vacant) (hclaim : (s.entry i).claim = some p) :
    stageDefineAt p i d s = (s, bare .itemConflict) := by
  simp only [stageDefineAt, h, hclaim, if_true]

theorem stageDefineAt_claimed {q : Port} (h : (s.entry i).content = .vacant)
    (hclaim : (s.entry i).claim = some q) (hne : p ≠ q) :
    stageDefineAt p i d s = refuseClaimed p q i s := by
  simp only [stageDefineAt, h, hclaim]
  exact if_neg (Ne.symm hne)

theorem stageDefineAt_free (h : (s.entry i).content = .vacant) (hclaim : (s.entry i).claim = none) :
    stageDefineAt p i d s = withIndexDefined i (stageNew p i (.define d) s) := by
  simp only [stageDefineAt, h, hclaim]

end

/-! ### Stages refused (R64 to R67, R74) -/

section
variable {p : Port} {s : State} {a b c : Byte}

theorem served_stageRebound_live {r : Rec} {d e m v w : Byte} (hq : quiet p s = true)
    (hc : (s.entry a.toFin).content = .live r) (howner : r.owner = p) (hm : m.toNat < 2)
    (hle : leIn r.kind (b ++ c) (d ++ e) = true) {t : State} {ans : Answer}
    (h : ∀ merge fresh, stageChange p a.toFin merge fresh s = (t, ans)) :
    served (.stageRebound p [a, b, c, d, e, m, v, w]) s =
      .next (servedState p 0x33 8 ans (sentByte p s) t) := by
  have hpass : ownerTests p a.toFin s = none := (ownerTests_live hc).trans (if_pos howner)
  rw [← reboundKind_live (p := p) hc] at hle
  exact served_stageRebound hq ((opStageRebound_passed hpass (reboundParams_good hle hm)).trans (h _ _))

end

/-- Settles O25: each refusal by the test that fails first; the claim test adds the port to the waiters. -/
theorem stageRefused : Obligations.StageRefused := by
  refine ⟨fun p s a b c hq => ?refused, fun p q s a b c hq hne hclaim => ⟨fun r hc => ?claimed, ?define⟩⟩
  case refused =>
    have hset {st : Status} (h : setTests p a.toFin s = some st) :=
      served_stageSet (b := b) (c := c) hq (opStageSet_refused h)
    have hretire {st : Status} (h : ownerTests p a.toFin s = some st) :=
      served_stageRetire hq (opStageRetire_refused h)
    have hrebound {st : Status} (h : ownerTests p a.toFin s = some st) (m d e v w : Byte) :=
      served_stageRebound (b := b) (c := c) (d := d) (e := e) (m := m) (v := v) (w := w) hq
        (opStageRebound_refused h)
    refine ⟨fun r rg hc => ?_, fun hc hitem => ?_, fun r hc => ⟨fun hright => ?_, fun howner => ?_,
      fun howner m d e v w hbad => ?_, fun hclaim hitem hfull => ⟨fun hright => ?_, fun howner => ?_⟩⟩⟩
    · exact ⟨hset (setTests_retired hc), hretire (ownerTests_retired hc),
        hrebound (ownerTests_retired hc)⟩
    · exact ⟨hset (setTests_vacant hc hitem), hretire (ownerTests_vacant hc hitem),
        hrebound (ownerTests_vacant hc hitem)⟩
    · exact hset ((setTests_live hc).trans (if_neg (ne_true_of_eq_false hright)))
    · have hfail : ownerTests p a.toFin s = some .noRight := (ownerTests_live hc).trans (if_neg howner)
      exact ⟨hretire hfail, hrebound hfail⟩
    · have hpass : ownerTests p a.toFin s = none := (ownerTests_live hc).trans (if_pos howner)
      rw [← reboundKind_live (p := p) hc] at hbad
      exact served_stageRebound hq (opStageRebound_badParam hpass (reboundParams_bad hbad))
    · have hpass : setTests p a.toFin s = none := (setTests_live hc).trans (if_pos hright)
      exact served_stageSet hq ((opStageSet_new hpass (.inl hclaim) hitem).trans (stageNew_full hfull))
    · have hpass : ownerTests p a.toFin s = none := (ownerTests_live hc).trans (if_pos howner)
      exact ⟨served_stageRetire hq
          ((opStageRetire_new hpass (.inl hclaim) hitem).trans (stageNew_full hfull)),
        fun m d e v w hm hle => served_stageRebound_live hq hc howner hm hle fun _ _ =>
          (stageChange_new (.inl hclaim) hitem).trans (stageNew_full hfull)⟩
  case claimed =>
    refine ⟨fun hright => ?_, fun howner => ?_, fun howner d e m v w hm hle => ?_⟩
    · have hpass : setTests p a.toFin s = none := (setTests_live hc).trans (if_pos hright)
      exact served_stageSet hq ((opStageSet_passed hpass).trans (stageChange_claimed hclaim hne))
    · have hpass : ownerTests p a.toFin s = none := (ownerTests_live hc).trans (if_pos howner)
      exact served_stageRetire hq (opStageRetire_claimed hpass hclaim hne)
    · exact served_stageRebound_live hq hc howner hm hle fun _ _ => stageChange_claimed hclaim hne
  case define =>
    intro hc ps d hlen hparams
    exact served_stageDefine hq hlen ((opStageDefine_at hparams).trans (stageDefineAt_claimed hc hclaim hne))

end Sys2Proof.Proofs

/-! PROOF. `stage_define` (R68 to R70, R195, R197): the entry it claims, and its parameter test. -/

namespace Sys2Proof.Proofs
open Sys2Proof.Machine

/-- A search of all indices finds the lowest that passes. -/
theorem find?_allIndices {f : Index → Bool} {i : Index} (h : f i = true)
    (hlow : ∀ j, j < i → ¬ f j = true) : allIndices.find? f = some i := by
  refine List.find?_eq_some_iff_getElem.2 ⟨h, i.val, ?_, ?_, fun j hj => ?_⟩
  · simp [allIndices]
  · simp [allIndices]
  · have hj' : j < 256 := hj.trans i.isLt
    have hget : allIndices[j]'(by simpa [allIndices] using hj') = ⟨j, hj'⟩ := by simp [allIndices]
    rw [hget, Bool.not_eq_true']
    exact Bool.eq_false_iff.2 (hlow ⟨j, hj'⟩ hj)

/-! ### Allocation (R70) -/

section
variable {p : Port} {i : Index} {d : Definition} {s : State}

/-- An entry that `stage_define(any)` may allocate. -/
def Allocatable (d : Definition) (s : State) (i : Index) : Prop :=
  (s.entry i).content = .vacant ∧ (s.entry i).claim = none ∧
    ∀ c, d.coupling = some c → c.partner ≠ i

theorem allocatable_iff (d : Definition) (s : State) (i : Index) :
    ((s.entry i).isVacant && (s.entry i).claim.isNone &&
      (match d.coupling with | some c => i != c.partner | none => true)) = true ↔
      Allocatable d s i := by
  unfold Allocatable Entry.isVacant
  cases d.coupling with
  | none => simp
  | some c => simp [and_assoc, @ne_comm _ i]

theorem allocate_none (h : ∀ i, ¬ Allocatable d s i) : allocate d s = none :=
  List.find?_eq_none.2 fun i _ hi => h i ((allocatable_iff d s i).1 hi)

theorem allocate_lowest (h : Allocatable d s i) (hlow : ∀ j, j < i → ¬ Allocatable d s j) :
    allocate d s = some i :=
  find?_allIndices ((allocatable_iff d s i).2 h) fun j hj =>
    mt (allocatable_iff d s j).1 (hlow j hj)

theorem stageDefineAny_full (h : 16 ≤ (s.draft p).length) :
    stageDefineAny p d s = (s, bare .draftFull) :=
  if_pos (decide_eq_true h)

theorem stageDefineAny_room (h : (s.draft p).length < 16) : stageDefineAny p d s =
    match allocate d s with
    | some i => withIndexDefined i (stageNew p i (.define d) s)
    | none => (s, bare .tableFull) :=
  if_neg fun hfull => Nat.not_le.2 h (of_decide_eq_true hfull)

theorem withIndexDefined_full (h : 16 ≤ (s.draft p).length) :
    withIndexDefined i (stageNew p i (.define d) s) = (s, bare .draftFull) := by
  rw [stageNew_full h]
  rfl

theorem withIndexDefined_room (h : (s.draft p).length < 16) :
    withIndexDefined i (stageNew p i (.define d) s) = (withItem p i (.define d) s,
      okWith [count8 ((s.draft p).length + 1), 2, count8 ((s.draft p).length + 1), indexByte i]) := by
  rw [stageNew_room h]
  rfl

end

/-- Settles O26: at an index by its entry's state and claim; by allocation through `allocate`. -/
theorem defineStaged : Obligations.DefineStaged := by
  constructor
  · intro p s ps i d hq hlen hparams
    have hserved {t : State} {ans : Answer} (h : stageDefineAt p i d s = (t, ans)) :=
      served_stageDefine hq hlen ((opStageDefine_at hparams).trans h)
    exact ⟨fun r rg hc => hserved (stageDefineAt_retired hc), fun r hc => hserved (stageDefineAt_live hc),
      fun hc hclaim => hserved (stageDefineAt_own hc hclaim),
      fun hc hclaim hfull => hserved ((stageDefineAt_free hc hclaim).trans (withIndexDefined_full hfull)),
      fun hc hclaim hroom => hserved ((stageDefineAt_free hc hclaim).trans (withIndexDefined_room hroom))⟩
  · intro p s ps d hq hlen hparams
    have hserved {t : State} {ans : Answer} (h : stageDefineAny p d s = (t, ans)) :=
      served_stageDefine hq hlen ((opStageDefine_any hparams).trans h)
    refine ⟨fun hfull => hserved (stageDefineAny_full hfull), fun hroom =>
      ⟨fun hnone => hserved ?full, fun i hfree hlow => hserved ?allocated⟩⟩
    case full => rw [stageDefineAny_room hroom, allocate_none hnone]
    case allocated =>
      rw [stageDefineAny_room hroom, allocate_lowest hfree hlow]
      exact withIndexDefined_room hroom

/-! ### The parameter test of `stage_define` (R68, R195, R197) -/

section
variable {b : Byte}

theorem kindOf_eq_some {k : Kind} : kindOf b = some k ↔ kindByte k = b := by
  constructor
  · intro h
    unfold kindOf at h
    split at h
    next hb => cases h; exact hb.symm
    next =>
      split at h
      next hb => cases h; exact hb.symm
      next => cases h
  · rintro rfl
    cases k <;> rfl

theorem policyOf_eq_some {q : Policy} : policyOf b = some q ↔ policyByte q = b := by
  constructor
  · intro h
    unfold policyOf at h
    split at h
    next hb => cases h; exact hb.symm
    next =>
      split at h
      next hb => cases h; exact hb.symm
      next => cases h
  · rintro rfl
    cases q <;> rfl

theorem markOf_eq_some {m : Bool} : markOf b = some m ↔ markByte m = b := by
  constructor
  · intro h
    unfold markOf at h
    split at h
    next hb => cases h; exact hb.symm
    next =>
      split at h
      next hb => cases h; exact hb.symm
      next => cases h
  · rintro rfl
    cases m <;> rfl

theorem relationOf_eq_some {r : Relation} : relationOf b = some r ↔ relationByte r = b := by
  constructor
  · intro h
    unfold relationOf at h
    split at h
    next hb => cases h; exact hb.symm
    next =>
      split at h
      next hb => cases h; exact hb.symm
      next =>
        split at h
        next hb => cases h; exact hb.symm
        next => cases h
  · rintro rfl
    cases r <;> rfl

theorem portSetOf_some {w : PortSet} (h : portSetOf b = some w) :
    b.toNat < 16 ∧ ∀ q, PortSet.has w q = b.getLsbD (portByte q).toNat := by
  unfold portSetOf at h
  split at h
  next hb =>
    cases h
    exact ⟨hb, fun q => by cases q <;> rfl⟩
  next => cases h

theorem portSetOf_lt (h : b.toNat < 16) : ∃ w, portSetOf b = some w := ⟨_, if_pos h⟩

/-! The bytes of each code set. -/

theorem exists_kindByte (h : b.toNat ≤ 1) : ∃ k, kindByte k = b := by
  have hb : b = 0 ∨ b = 1 := by bv_omega
  obtain rfl | rfl := hb
  · exact ⟨.unsigned, rfl⟩
  · exact ⟨.signed, rfl⟩

theorem exists_policyByte (h : b.toNat ≤ 1) : ∃ q, policyByte q = b := by
  have hb : b = 0 ∨ b = 1 := by bv_omega
  obtain rfl | rfl := hb
  · exact ⟨.clamp, rfl⟩
  · exact ⟨.refuse, rfl⟩

theorem exists_markByte (h : b.toNat ≤ 1) : ∃ m, markByte m = b := by
  have hb : b = 0 ∨ b = 1 := by bv_omega
  obtain rfl | rfl := hb
  · exact ⟨false, rfl⟩
  · exact ⟨true, rfl⟩

theorem exists_relationByte (h0 : b ≠ 0) (h : b.toNat ≤ 3) : ∃ r, relationByte r = b := by
  have hb : b = 1 ∨ b = 2 ∨ b = 3 := by bv_omega
  obtain rfl | rfl | rfl := hb
  · exact ⟨.notAbove, rfl⟩
  · exact ⟨.notBelow, rfl⟩
  · exact ⟨.within, rfl⟩

theorem kindByte_le (k : Kind) : (kindByte k).toNat ≤ 1 := by cases k <;> decide

theorem policyByte_le (q : Policy) : (policyByte q).toNat ≤ 1 := by cases q <;> decide

theorem markByte_le (m : Bool) : (markByte m).toNat ≤ 1 := by cases m <;> decide

theorem relationByte_le (r : Relation) : relationByte r ≠ 0 ∧ (relationByte r).toNat ≤ 3 := by
  cases r <;> decide

theorem kindByte_eq_one {k : Kind} : kindByte k = 1 ↔ k = .signed := by cases k <;> decide

theorem policyByte_eq_one {q : Policy} : policyByte q = 1 ↔ q = .refuse := by cases q <;> decide

theorem markByte_eq_one {m : Bool} : markByte m = 1 ↔ m = true := by cases m <;> decide

theorem relationByte_eq_three {r : Relation} : relationByte r = 3 ↔ r = .within := by
  cases r <;> decide

end

section
variable {p : Port} {ps : List Byte} {d : Definition}

/-- The coupling read from its offsets (R197). -/
def CouplingRead (ps : List Byte) : Option Coupling → Prop
  | none => byteAt ps 15 = 0
  | some c => byteAt ps 15 = 1 ∧ c.partner = (byteAt ps 16).toFin ∧
      relationByte c.relation = byteAt ps 17 ∧
      c.margin = if byteAt ps 17 = 3 then wordAt ps 18 else 0

theorem CouplingRead.mark_le {c : Option Coupling} (h : CouplingRead ps c) :
    (byteAt ps 15).toNat ≤ 1 := by
  cases c with
  | none =>
    have h15 : byteAt ps 15 = 0 := h
    rw [h15]
    decide
  | some c =>
    obtain ⟨h15, -⟩ := h
    rw [h15]
    decide

theorem CouplingRead.eq_none_iff {c : Option Coupling} (h : CouplingRead ps c) :
    c = none ↔ byteAt ps 15 = 0 := by
  cases c with
  | none => exact ⟨fun _ => h, fun _ => rfl⟩
  | some c =>
    obtain ⟨h15, -⟩ := h
    rw [h15]
    exact ⟨(fun hc => nomatch hc), fun hbyte => absurd hbyte (by decide)⟩

theorem CouplingRead.relation_of_mark {c : Option Coupling} (h : CouplingRead ps c)
    (h15 : byteAt ps 15 = 1) : byteAt ps 17 ≠ 0 ∧ (byteAt ps 17).toNat ≤ 3 := by
  cases c with
  | none =>
    have hzero : byteAt ps 15 = 0 := h
    exact absurd (hzero.symm.trans h15) (by decide)
  | some c =>
    obtain ⟨-, -, hbyte, -⟩ := h
    exact hbyte ▸ relationByte_le c.relation

/-- A coupling can be read where the presence mark and the relation are in their sets. -/
theorem exists_couplingRead (h15 : (byteAt ps 15).toNat ≤ 1)
    (h17 : byteAt ps 15 = 1 → byteAt ps 17 ≠ 0 ∧ (byteAt ps 17).toNat ≤ 3) :
    ∃ c, CouplingRead ps c := by
  obtain ⟨m, hm⟩ := exists_markByte h15
  cases m with
  | false => exact ⟨none, hm.symm⟩
  | true =>
    obtain ⟨hne, hle⟩ := h17 hm.symm
    obtain ⟨r, hr⟩ := exists_relationByte hne hle
    exact ⟨some { partner := (byteAt ps 16).toFin, relation := r, margin := _ }, hm.symm, rfl, hr, rfl⟩

theorem couplingOf_some {c : Option Coupling} (h : couplingOf ps = some c) : CouplingRead ps c := by
  unfold couplingOf at h
  split at h
  next => cases h
  next hm => cases h; exact (markOf_eq_some.1 hm).symm
  next hm =>
    split at h
    next => cases h
    next r hr =>
      cases h
      have hbyte := relationOf_eq_some.1 hr
      refine ⟨(markOf_eq_some.1 hm).symm, rfl, hbyte, ?_⟩
      rw [← hbyte]
      simp only [relationByte_eq_three]

theorem couplingOf_reads {c : Option Coupling} (h : CouplingRead ps c) : couplingOf ps = some c := by
  cases c with
  | none =>
    have hm : markOf (byteAt ps 15) = some false := markOf_eq_some.2 h.symm
    simp only [couplingOf, hm]
  | some c =>
    obtain ⟨h15, hpartner, hbyte, hmargin⟩ := h
    have hm : markOf (byteAt ps 15) = some true := markOf_eq_some.2 h15.symm
    rw [← hbyte] at hmargin
    simp only [relationByte_eq_three] at hmargin
    have hindex : indexOf (byteAt ps 16) = c.partner := hpartner.symm
    simp only [couplingOf, hm, relationOf_eq_some.2 hbyte, hindex, ← hmargin]

/-- The fields read from their offsets (R68, R197). -/
structure DefinitionRead (p : Port) (ps : List Byte) (d : Definition) : Prop where
  kind : kindByte d.kind = byteAt ps 5
  policy : policyByte d.policy = byteAt ps 6
  retain : markByte d.retain = byteAt ps 7
  writers : ∃ w, portSetOf (byteAt ps 14) = some w ∧ d.writeSet = PortSet.add w p
  coupling : CouplingRead ps d.coupling
  tag : d.tag = wordAt ps 3
  low : d.low = wordAt ps 8
  high : d.high = wordAt ps 10
  value : d.value = wordAt ps 12
  tagged : wordAt ps 3 ≠ 0
  ordered : leIn d.kind (wordAt ps 8) (wordAt ps 10) = true

theorem definitionOf_some (h : definitionOf p ps = some d) : DefinitionRead p ps d := by
  unfold definitionOf at h
  split at h
  next k q m w c hk hq hm hw hc =>
    split at h
    next => cases h
    next hgood =>
      cases h
      rw [not_or] at hgood
      obtain ⟨htag, hle⟩ := hgood
      exact ⟨kindOf_eq_some.1 hk, policyOf_eq_some.1 hq, markOf_eq_some.1 hm, ⟨w, hw, rfl⟩,
        couplingOf_some hc, rfl, rfl, rfl, rfl, htag, by simpa using hle⟩
  next => cases h

theorem definitionOf_reads (k : Kind) (q : Policy) (m : Bool) (c : Option Coupling)
    (hk : kindByte k = byteAt ps 5) (hq : policyByte q = byteAt ps 6) (hm : markByte m = byteAt ps 7)
    (hw : (byteAt ps 14).toNat < 16) (hc : CouplingRead ps c) (htag : wordAt ps 3 ≠ 0)
    (hle : leIn k (wordAt ps 8) (wordAt ps 10) = true) :
    ∃ d, definitionOf p ps = some d ∧ d.coupling = c := by
  obtain ⟨w, hw⟩ := portSetOf_lt hw
  have hgood : ¬ (wordAt ps 3 = 0 ∨ leIn k (wordAt ps 8) (wordAt ps 10) = false) :=
    not_or.2 ⟨htag, Bool.not_eq_false _ ▸ hle⟩
  simp only [definitionOf, kindOf_eq_some.2 hk, policyOf_eq_some.2 hq, markOf_eq_some.2 hm, hw,
    couplingOf_reads hc, if_neg hgood]
  exact ⟨_, rfl, rfl⟩

/-- The target read from its offsets (R68). -/
def targetRead (ps : List Byte) : Option Index :=
  if byteAt ps 1 = 0 then some (byteAt ps 2).toFin else none

theorem targetOf_some {t : Option Index} (h : targetOf ps = some t) :
    (byteAt ps 1).toNat ≤ 1 ∧ t = targetRead ps := by
  unfold targetOf at h
  split at h
  next => cases h
  next hm =>
    cases h
    have hbyte : (0 : Byte) = byteAt ps 1 := markOf_eq_some.1 hm
    rw [targetRead, ← hbyte]
    exact ⟨by decide, rfl⟩
  next hm =>
    cases h
    have hbyte : (1 : Byte) = byteAt ps 1 := markOf_eq_some.1 hm
    rw [targetRead, ← hbyte]
    exact ⟨by decide, rfl⟩

theorem targetOf_reads (h : (byteAt ps 1).toNat ≤ 1) : targetOf ps = some (targetRead ps) := by
  obtain ⟨m, hm⟩ := exists_markByte h
  rw [targetRead, ← hm]
  cases m with
  | false => simp only [targetOf, markOf_eq_some.2 hm]; rfl
  | true => simp only [targetOf, markOf_eq_some.2 hm]; rfl

theorem toFin_inj {a b : Byte} : a.toFin = b.toFin ↔ a = b :=
  ⟨fun h => BitVec.eq_of_toFin_eq h, congrArg BitVec.toFin⟩

theorem selfCoupled_iff (h : CouplingRead ps d.coupling) :
    selfCoupled (targetRead ps) d = true ↔
      byteAt ps 1 = 0 ∧ byteAt ps 15 = 1 ∧ byteAt ps 16 = byteAt ps 2 := by
  unfold targetRead
  cases hc : d.coupling with
  | none =>
    rw [hc] at h
    have h15 : byteAt ps 15 = 0 := h
    split <;> simp [selfCoupled, hc, h15]
  | some c =>
    rw [hc] at h
    obtain ⟨h15, hpartner, -, -⟩ := h
    split
    next h1 =>
      simp only [selfCoupled, hc, hpartner, h15, h1, beq_iff_eq, true_and]
      exact toFin_inj
    next h1 => exact ⟨(fun hself => nomatch hself), fun ⟨hzero, _⟩ => absurd hzero h1⟩

theorem defineParams_some {t : Option Index} (h : defineParams p ps = some (t, d)) :
    targetOf ps = some t ∧ definitionOf p ps = some d ∧ selfCoupled t d = false := by
  unfold defineParams at h
  split at h
  next t' d' ht hd =>
    split at h
    next => cases h
    next hself => cases h; exact ⟨ht, hd, by simpa using hself⟩
  next => cases h

theorem defineParams_reads {t : Option Index} (ht : targetOf ps = some t)
    (hd : definitionOf p ps = some d) (hself : selfCoupled t d = false) :
    defineParams p ps = some (t, d) := by
  simp only [defineParams, ht, hd, hself]
  exact if_neg Bool.false_ne_true

/-- The fields that R68 refuses. -/
def BadParams (ps : List Byte) : Prop :=
  1 < (byteAt ps 1).toNat ∨ wordAt ps 3 = 0 ∨ 1 < (byteAt ps 5).toNat ∨
  1 < (byteAt ps 6).toNat ∨ 1 < (byteAt ps 7).toNat ∨
  leIn (if byteAt ps 5 = 0 then .unsigned else .signed) (wordAt ps 8) (wordAt ps 10) = false ∨
  15 < (byteAt ps 14).toNat ∨ 1 < (byteAt ps 15).toNat ∨
  (byteAt ps 15 = 1 ∧ (byteAt ps 17 = 0 ∨ 3 < (byteAt ps 17).toNat ∨
    (byteAt ps 1 = 0 ∧ byteAt ps 16 = byteAt ps 2)))

theorem kind_of_byte {k : Kind} {b : Byte} (h : kindByte k = b) :
    (if b = 0 then .unsigned else .signed) = k := by
  subst h
  cases k <;> rfl

/-- No field is bad in parameters that are read. -/
theorem not_bad_of_some {t : Option Index} (h : defineParams p ps = some (t, d)) : ¬ BadParams ps := by
  obtain ⟨ht, hd, hself⟩ := defineParams_some h
  obtain ⟨h1, rfl⟩ := targetOf_some ht
  have hr := definitionOf_some hd
  obtain ⟨w, hw, -⟩ := hr.writers
  obtain ⟨h14, -⟩ := portSetOf_some hw
  have hle := hr.ordered
  rw [← kind_of_byte hr.kind] at hle
  rw [← Bool.not_eq_true, selfCoupled_iff hr.coupling] at hself
  rintro (hb | hb | hb | hb | hb | hb | hb | hb | ⟨h15, hb⟩)
  · exact Nat.not_le.2 hb h1
  · exact hr.tagged hb
  · exact Nat.not_le.2 hb (hr.kind ▸ kindByte_le d.kind)
  · exact Nat.not_le.2 hb (hr.policy ▸ policyByte_le d.policy)
  · exact Nat.not_le.2 hb (hr.retain ▸ markByte_le d.retain)
  · exact nomatch hb.symm.trans hle
  · exact Nat.not_le.2 h14 hb
  · exact Nat.not_le.2 hb hr.coupling.mark_le
  · obtain ⟨hzero, hrel⟩ := hr.coupling.relation_of_mark h15
    exact hb.elim hzero fun hb => hb.elim (Nat.not_lt.2 hrel) fun ⟨h1, h16⟩ => hself ⟨h1, h15, h16⟩

/-- Parameters without a bad field are read. -/
theorem some_of_not_bad (h : ¬ BadParams ps) : ∃ t d, defineParams p ps = some (t, d) := by
  simp only [BadParams, not_or, not_and, Nat.not_lt, Bool.not_eq_false] at h
  obtain ⟨h1, h3, h5, h6, h7, hle, h14, h15, hc⟩ := h
  obtain ⟨k, hk⟩ := exists_kindByte h5
  obtain ⟨q, hq⟩ := exists_policyByte h6
  obtain ⟨m, hm⟩ := exists_markByte h7
  rw [kind_of_byte hk] at hle
  obtain ⟨c, hread⟩ := exists_couplingRead h15 fun hmark => (hc hmark).imp_right And.left
  obtain ⟨d, hd, hdc⟩ := definitionOf_reads (p := p) k q m c hk hq hm (Nat.lt_succ_of_le h14) hread h3 hle
  refine ⟨targetRead ps, d, defineParams_reads (targetOf_reads h1) hd ?_⟩
  rw [← Bool.not_eq_true, selfCoupled_iff (hdc ▸ hread)]
  rintro ⟨hzero, hmark, hsame⟩
  obtain ⟨-, -, hother⟩ := hc hmark
  exact hother hzero hsame

theorem defineParams_eq_none : defineParams p ps = none ↔ BadParams ps := by
  constructor
  · intro hnone
    by_contra hbad
    obtain ⟨t, d, hsome⟩ := some_of_not_bad (p := p) hbad
    exact nomatch hnone.symm.trans hsome
  · intro hbad
    rw [Option.eq_none_iff_forall_ne_some]
    exact fun ⟨t, d⟩ hsome => not_bad_of_some hsome hbad

end

/-- Settles O27: the refusal and the fields read, through `defineParams_eq_none` and `DefinitionRead`. -/
theorem defineParameters : Obligations.DefineParameters := by
  refine ⟨fun p s ps hq hlen h => served_stageDefine hq hlen (opStageDefine_badParam h),
    fun p ps => ⟨defineParams_eq_none, fun t d h => ?_⟩⟩
  obtain ⟨ht, hd, -⟩ := defineParams_some h
  obtain ⟨-, htarget⟩ := targetOf_some ht
  have hr := definitionOf_some hd
  obtain ⟨w, hw, hwriters⟩ := hr.writers
  obtain ⟨-, hbits⟩ := portSetOf_some hw
  refine ⟨htarget, hr.tag, hr.low, hr.high, hr.value, ?_, ?_, ?_, ?_, fun q hne => ?_, ?_, fun c hc => ?_⟩
  · rw [← hr.kind, kindByte_eq_one]
  · rw [← hr.policy, policyByte_eq_one]
  · rw [← hr.retain, markByte_eq_one]
  · rw [hwriters, PortSet.has_add, if_pos rfl]
  · rw [hwriters, PortSet.has_add, if_neg hne, hbits]
  · exact hr.coupling.eq_none_iff
  · have hread := hr.coupling
    rw [hc] at hread
    obtain ⟨-, hpartner, hbyte, hmargin⟩ := hread
    exact ⟨hpartner, hbyte, hmargin⟩

end Sys2Proof.Proofs

/-! PROOF. The release (R87 to R108): values and relations, the stamps of the post-state, the refusals,
and what an accepted release changes and delivers. -/

namespace Sys2Proof.Proofs
open Sys2Proof.Machine

/-! ### Values and relations (R2, R10, R92) -/

section
variable {k : Kind} {low high v : Word}

theorem leIn_eq_false : leIn k low v = false ↔ valueOf k v < valueOf k low := by
  rw [← Bool.not_eq_true, leIn_iff, Int.not_le]

theorem rangeValue_below (h : valueOf k v < valueOf k low) : rangeValue .clamp k low high v = low :=
  if_pos (leIn_eq_false.2 h)

theorem rangeValue_above (hle : valueOf k low ≤ valueOf k high) (h : valueOf k high < valueOf k v) :
    rangeValue .clamp k low high v = high := by
  have hlow : ¬ leIn k low v = false := fun hf => by
    have hlt := leIn_eq_false.1 hf
    omega
  exact (if_neg hlow).trans (if_pos (leIn_eq_false.2 h))

theorem rangeValue_inside (h : within k low high v = true) : rangeValue .clamp k low high v = v := by
  obtain ⟨hlow, hhigh⟩ := (within_iff k low high v).1 h
  exact (if_neg fun hf => absurd hlow (Int.not_le.2 (leIn_eq_false.1 hf))).trans
    (if_neg fun hf => absurd hhigh (Int.not_le.2 (leIn_eq_false.1 hf)))

theorem rangeValue_within (h : leIn k low high = true) :
    within k low high (rangeValue .clamp k low high v) = true := by
  have hle := (leIn_iff k low high).1 h
  by_cases hlow : valueOf k v < valueOf k low
  · rw [rangeValue_below hlow]
    exact (within_iff k low high low).2 ⟨le_rfl, hle⟩
  by_cases hhigh : valueOf k high < valueOf k v
  · rw [rangeValue_above hle hhigh]
    exact (within_iff k low high high).2 ⟨hle, le_rfl⟩
  have hin : within k low high v = true :=
    (within_iff k low high v).2 ⟨Int.not_lt.1 hlow, Int.not_lt.1 hhigh⟩
  rw [rangeValue_inside hin]
  exact hin

theorem isClamped_clamp : isClamped .clamp k low high v = true ↔ within k low high v = false := by
  simp [isClamped]

theorem valueOf_signed (v : Word) :
    valueOf .signed v = if v.toNat < 32768 then (v.toNat : Int) else (v.toNat : Int) - 65536 := by
  have h := BitVec.toInt_eq_toNat_cond v
  rw [valueOf, h]
  split <;> split <;> omega

/-- Two words are at most 65535 apart in either kind. -/
theorem distance_le (k : Kind) (v w : Word) : (valueOf k v - valueOf k w).natAbs ≤ 65535 := by
  have hv := v.isLt
  have hw := w.isLt
  cases k with
  | unsigned => simp only [valueOf]; omega
  | signed => rw [valueOf_signed, valueOf_signed]; split <;> split <;> omega

end

/-- Settles O30: the value is inside its bounds, below or above them; each relation is its inequality. -/
theorem valueComparisons : Obligations.ValueComparisons := by
  refine ⟨fun k low high v h => ⟨rangeValue_inside, rangeValue_below,
      rangeValue_above ((leIn_iff k low high).1 h), rangeValue_within h, rfl, isClamped_clamp, rfl⟩,
    fun e k v w m => ⟨by simp [relationHolds], by simp [relationHolds], ?_, ?_, rfl, valueOf_signed v⟩⟩
  · simp only [relationHolds, decide_eq_true_eq]
    omega
  · exact decide_eq_true (distance_le k v w)

/-! ### The post-state and its stamps (R16 to R18, R91, R103) -/

/-- Settles O32: the post-state of an entry is `postEntry` under its one item. -/
theorem postStateStamps : Obligations.PostStateStamps := by
  intro p g items t hnodup
  refine ⟨fun i h => postState_get_of_not_mem h t, fun it hit => ?_⟩
  obtain ⟨hclaim, hwaiters⟩ := postState_claim p g items t it.index
  have hpost : ((postState p g items t).get it.index).content =
      postContent p g (t.get it.index).content it.change :=
    congrArg Entry.content (postState_get_of_mem hnodup hit t)
  refine ⟨hclaim, hwaiters, fun r hc => ?live, fun d hd hc => ?define⟩
  case live =>
    rw [hpost, hc]
    refine ⟨fun v hch => ?_, fun lo hi v hch => ?_, fun hch => ?_⟩
    · rw [hch]; rfl
    · rw [hch]; cases v <;> rfl
    · rw [hch]; rfl
  case define => rw [hpost, hc, hd]; rfl

/-! ### Refused releases (R88, R89, R93, R100) -/

theorem findSome?_zipIdx_eq_some {α β : Type} {f : α → Option β} {xs : List α} {k n : Nat} {x : α} {b : β}
    (h : ((xs.zipIdx k).findSome? fun q => (f q.1).map fun b => (q.2, q.1, b)) = some (n, x, b)) :
    ∃ before after, xs = before ++ x :: after ∧ n = k + before.length ∧ f x = some b ∧
      ∀ y ∈ before, f y = none := by
  induction xs generalizing k with
  | nil => cases h
  | cons y ys ih =>
    rw [List.zipIdx_cons, List.findSome?_cons] at h
    cases hy : f y with
    | some c =>
      simp only [hy, Option.map_some, Option.some.injEq, Prod.mk.injEq] at h
      obtain ⟨rfl, rfl, rfl⟩ := h
      exact ⟨[], ys, rfl, rfl, hy, fun _ hz => nomatch hz⟩
    | none =>
      simp only [hy, Option.map_none] at h
      obtain ⟨before, after, hsplit, hn, hx, hpass⟩ := ih h
      refine ⟨y :: before, after, by rw [hsplit]; rfl, by rw [hn, List.length_cons]; omega, hx, ?_⟩
      exact List.forall_mem_cons.2 ⟨hy, hpass⟩

/-- The first failure stands at its position, behind items that pass (R93). -/
theorem firstFailure_some {deps : Vector IndexSet 256} {post : Entries} {items : List Item} {n : Nat}
    {it : Item} {f : Failure} (h : firstFailure deps post items = some (n, it, f)) :
    items[n - 1]? = some it ∧ 1 ≤ n ∧ checkItem deps post it = some f ∧
      ∀ m jt, m + 1 < n → items[m]? = some jt → checkItem deps post jt = none := by
  obtain ⟨before, after, hitems, hn, hfail, hpass⟩ := findSome?_zipIdx_eq_some h
  subst hitems hn
  refine ⟨by simp, Nat.le_add_right _ _, hfail, fun m jt hm hjt => hpass jt ?_⟩
  rw [List.getElem?_append_left (by omega)] at hjt
  exact List.mem_of_getElem? hjt

section
variable {p : Port} {s : State}

theorem opRelease_empty (h : s.draft p = []) : opRelease p s = (s, bare .noDraft) :=
  if_pos (List.isEmpty_iff.2 h)

theorem opRelease_limit (hd : s.draft p ≠ []) (hg : s.table.g = Config.lastGen) :
    opRelease p s = (s, { status := .genLimit, payload := [count8 (s.draft p).length] }) :=
  (if_neg (mt List.isEmpty_iff.1 hd)).trans (if_pos hg)

/-- The post-state of port p's draft (R91). -/
def postOf (p : Port) (s : State) : Entries :=
  postState p (s.table.g + 1) (s.draft p) s.table.entries

theorem opRelease_refused (hd : s.draft p ≠ []) (hg : s.table.g ≠ Config.lastGen) {n : Nat} {it : Item}
    {f : Failure} (h : firstFailure s.table.dependents (postOf p s) (s.draft p) = some (n, it, f)) :
    opRelease p s = (s, refusalAnswer n it f) := by
  rw [postOf] at h
  simp only [opRelease, h, if_neg (mt List.isEmpty_iff.1 hd), if_neg hg]

/-- The answer of an accepted release (R108). -/
def acceptedAnswer (p : Port) (s : State) : Answer :=
  let changed := changedCount s.table.entries (postOf p s) (s.draft p)
  okWith (releasePayload (nextGen s.table.g changed) changed
    ((s.draft p).filter (itemClamped s.table.entries)))

theorem opRelease_accepted (hd : s.draft p ≠ []) (hg : s.table.g ≠ Config.lastGen)
    (h : firstFailure s.table.dependents (postOf p s) (s.draft p) = none) :
    opRelease p s = (acceptRelease p (postOf p s) s, acceptedAnswer p s) := by
  have hpost : postOf p s = postState p (s.table.g + 1) (s.draft p) s.table.entries := rfl
  rw [hpost] at h
  simp only [opRelease, h, if_neg (mt List.isEmpty_iff.1 hd), if_neg hg]
  rfl

end

theorem served_release_op {p : Port} {s t : State} {a : Answer} (hq : quiet p s = true)
    (h : opRelease p s = (t, a)) :
    served (.release p []) s = .next (servedState p 0x3B 0 a (sentByte p s) t) :=
  served_done (o := .release) (ps := []) hq rfl rfl rfl h rfl

/-- Settles O31: the three refusals, the last by the first item that fails. -/
theorem releaseRefused : Obligations.ReleaseRefused := by
  refine ⟨firstFailure_eq_none, fun p s hq =>
    ⟨fun hd => served_release_op hq (opRelease_empty hd),
      fun hd hg => served_release_op hq (opRelease_limit hd hg), fun n it f hd hg hfail => ?_⟩⟩
  obtain ⟨hat, hpos, hcheck, hpass⟩ := firstFailure_some hfail
  exact ⟨hat, hpos, hcheck, hpass, served_release_op hq (opRelease_refused hd hg hfail)⟩

/-! ### Accepted releases (R102 to R108) -/

section
variable (p : Port) (post : Entries) (s : State)

theorem acceptRelease_entry (i : Index) :
    (acceptRelease p post s).entry i =
      if (s.draft p).any Item.isRetire then
        vacateEntry (heldAnchors s.table) ((dropClaims post (s.draft p)).get i)
      else (dropClaims post (s.draft p)).get i := by
  simp only [acceptRelease]
  split
  · exact mapEntries_get _ _ i
  · rfl

theorem acceptRelease_rest : (acceptRelease p post s).table =
    { releasedTable p (s.draft p) post s.table with
      entries := (acceptRelease p post s).table.entries } := by
  simp only [acceptRelease]
  split <;> rfl

theorem acceptRelease_timer : (acceptRelease p post s).timer =
    { s.timer with draftCount := s.timer.draftCount.set p .stopped } := by
  simp only [acceptRelease]
  split <;> rfl

theorem acceptRelease_notice (q : Port) : (acceptRelease p post s).notice q =
    if s.attached q then
      applyDelivery (releaseDelivery p s.table.entries post (s.draft p) q) (s.notice q)
    else s.notice q := by
  rw [State.notice, acceptRelease_notices]
  exact deliver_notice _ (s.withTable _) q

end

theorem releasePayload_eq (g : Gen) (changed : Nat) (clamped : List Item) :
    releasePayload g changed clamped = be32 g ++ [count8 changed, count8 clamped.length] ++
      (match clamped.head? with | some it => [1, indexByte it.index] | none => [0, 0]) := by
  cases clamped <;> rfl

/-- Settles O34: the state is `acceptRelease` on the post-state. -/
theorem releaseAccepted : Obligations.ReleaseAccepted := by
  intro p s hq hd hg items post hpass changed clamped g
  have hframe := acceptRelease_frame p post s
  refine ⟨acceptRelease p post s, ?served, fun i => ?entry, ?table, acceptRelease_timer p post s,
    acceptRelease_notice p post s, hframe.ports, hframe.save, hframe.store, hframe.nreset,
    hframe.freePick⟩
  case served =>
    have hrow := served_release_op hq (opRelease_accepted hd hg hpass)
    rw [acceptedAnswer, releasePayload_eq] at hrow
    exact hrow
  case entry =>
    rw [acceptRelease_entry, dropClaims_get]
  case table => exact acceptRelease_rest p post s

/-! ### What a release delivers (R105, R106) -/

theorem getLsbD_flagIf (b : Bool) (f : NoticeFlags) (k : Nat) :
    (flagIf b f).getLsbD k = (b && f.getLsbD k) := by
  cases b <;> simp [flagIf]

theorem getLsbD_high {f : NoticeFlags} (h : f.toNat < 2 ^ 3) {k : Nat} (hk : 3 ≤ k) :
    f.getLsbD k = false :=
  Nat.testBit_lt_two_pow (h.trans_le (Nat.pow_le_pow_right (by decide) hk))

/-- The items of a release that port q is told of (R105, R106). -/
def toldItems (p : Port) (old post : Entries) (items : List Item) (q : Port) : List Item :=
  items.filter fun it => q != p && itemChanged old post it && (old.get it.index).hasSubscriber q

section
variable {p q : Port} {old post : Entries} {items : List Item}

theorem mem_toldItems {it : Item} : it ∈ toldItems p old post items q ↔
    it ∈ items ∧ q ≠ p ∧
      contentChanged (old.get it.index).content (post.get it.index).content = true ∧
      (old.get it.index).hasSubscriber q = true := by
  simp [toldItems, itemChanged, and_assoc]

/-- The flags of a release's delivery, bit by bit. -/
theorem releaseDelivery_bit (k : Nat) : (releaseDelivery p old post items q).flags.getLsbD k =
    (((toldItems p old post items q).any (fun it => (post.get it.index).isLive) && flagCHG.getLsbD k ||
      (toldItems p old post items q).any (fun it => (post.get it.index).isRetired) && flagRET.getLsbD k) ||
      items.any (fun it => PortSet.has (old.get it.index).waiters q) && flagFREE.getLsbD k) := by
  rw [← waitersOf_has]
  simp only [releaseDelivery, BitVec.getLsbD_or, getLsbD_flagIf]
  rfl

end

/-- Settles O35: each flag is one bit, and the items told of are `toldItems`. -/
theorem releaseNotices : Obligations.ReleaseNotices := by
  intro p q old post items d told
  have hbit (k : Nat) := releaseDelivery_bit (p := p) (q := q) (old := old) (post := post)
    (items := items) k
  have htold (f : Item → Bool) :
      (toldItems p old post items q).any f = true ↔ ∃ it, told it ∧ f it = true := by
    simp only [List.any_eq_true, mem_toldItems, told]
  refine ⟨?changed, ?retired, ?free, fun k hk => ?others, fun i => ?indices, rfl⟩
  case changed => rw [hbit, ← htold]; simp [flagCHG, flagRET, flagFREE]
  case retired => rw [hbit, ← htold]; simp [flagCHG, flagRET, flagFREE]
  case free => rw [hbit, ← List.any_eq_true]; simp [flagCHG, flagRET, flagFREE]
  case others =>
    rw [hbit, getLsbD_high (f := flagCHG) (by decide) hk, getLsbD_high (f := flagRET) (by decide) hk,
      getLsbD_high (f := flagFREE) (by decide) hk]
    simp only [Bool.and_false, Bool.or_false]
  case indices =>
    have hmem : i ∈ d.indices ↔ ∃ it ∈ toldItems p old post items q, it.index = i := List.mem_map
    simp only [hmem, mem_toldItems, told]

end Sys2Proof.Proofs

/-! PROOF. The checks of one item of a release in their order (R93 to R99). -/

namespace Sys2Proof.Proofs
open Sys2Proof.Machine

/-! ### Each check by its outcome -/

section
variable {deps : Vector IndexSet 256} {post : Entries} {it : Item} {r w : Rec} {d : Definition}
  {c : Coupling} {f : Failure}

theorem live?_eq_none {e : Entry} (h : ∀ r, e.content ≠ .live r) : e.live? = none := by
  rw [Option.eq_none_iff_forall_ne_some]
  exact fun r hr => h r (live?_eq_some.1 hr)

/-- Check (a) of an item that is no RETIRE (R94). -/
theorem checkRange_live (hr : (post.get it.index).content = .live r) (hne : it.change ≠ .retire) :
    checkRange post it =
      if within r.kind r.low r.high r.value then none else some ⟨.range, none⟩ := by
  unfold checkRange
  rw [live?_of_live hr]
  split
  next hch => exact absurd hch hne
  next r' hr' _ => cases hr'; rfl
  next hnone _ => cases hnone

theorem checkRange_retire (hch : it.change = .retire) : checkRange post it = none := by
  simp only [checkRange, hch]

/-- Another entry LIVE in the post-state bears the tag (R95). -/
def bearsTag (post : Entries) (it : Item) (tag : Word) (j : Index) : Bool :=
  j != it.index && (match (post.get j).live? with | some q => q.tag == tag | none => false)

theorem bearsTag_iff {tag : Word} {j : Index} : bearsTag post it tag j = true ↔
    j ≠ it.index ∧ ∃ q, (post.get j).content = .live q ∧ q.tag = tag := by
  unfold bearsTag
  simp only [Bool.and_eq_true, bne_iff_ne, ← live?_eq_some]
  cases (post.get j).live? <;> simp

theorem checkTag_define (hch : it.change = .define d) : checkTag post it =
    (allIndices.find? (bearsTag post it d.tag)).map fun j => ⟨.dupTag, some j⟩ := by
  unfold checkTag
  rw [hch]
  rfl

/-- Check (b) of a DEFINE whose tag another entry bears. -/
theorem checkTag_taken {j : Index} (hch : it.change = .define d) (hj : bearsTag post it d.tag j = true)
    (hlow : ∀ k, k < j → ¬ bearsTag post it d.tag k = true) :
    checkTag post it = some ⟨.dupTag, some j⟩ := by
  rw [checkTag_define hch, find?_allIndices hj hlow, Option.map_some]

theorem checkTag_unique (hch : it.change = .define d)
    (h : ∀ j q, j ≠ it.index → (post.get j).content = .live q → q.tag ≠ d.tag) :
    checkTag post it = none := by
  have hnone : allIndices.find? (bearsTag post it d.tag) = none :=
    List.find?_eq_none.2 fun j _ hj => by
      obtain ⟨hne, q, hq, htag⟩ := bearsTag_iff.1 hj
      exact h j q hne hq htag
  rw [checkTag_define hch, hnone, Option.map_none]

theorem checkTag_other (h : ∀ d, it.change ≠ .define d) : checkTag post it = none := by
  unfold checkTag
  split
  next d hch => exact absurd hch (h d)
  next => rfl

theorem ne_retire_of_define (hch : it.change = .define d) : it.change ≠ .retire := by
  rw [hch]
  exact nofun

/-- Check (c) of a DEFINE without a coupling, or of another item. -/
theorem checkPartner_other (h : ∀ d c, it.change = .define d → d.coupling ≠ some c) :
    checkPartner post it = none := by
  unfold checkPartner
  split
  next d hch =>
    split
    next c hc => exact absurd hc (h d c hch)
    next => rfl
  next => rfl

theorem checkPartner_live (hch : it.change = .define d) (hc : d.coupling = some c)
    (hw : (post.get c.partner).content = .live w) : checkPartner post it =
      if w.kind ≠ d.kind then some ⟨.partner, some c.partner⟩
      else if d.retain = true ∧ w.retain = false then some ⟨.retainPartner, some c.partner⟩
      else none := by
  simp only [checkPartner, hch, hc, live?_of_live hw]

theorem checkPartner_gone (hch : it.change = .define d) (hc : d.coupling = some c)
    (hw : ∀ w, (post.get c.partner).content ≠ .live w) :
    checkPartner post it = some ⟨.partner, some c.partner⟩ := by
  simp only [checkPartner, hch, hc, live?_eq_none hw]

/-- Check (d) (R97). -/
theorem checkOwnCoupling_uncoupled (hr : (post.get it.index).content = .live r)
    (hc : r.coupling = none) : checkOwnCoupling post it = none := by
  simp only [checkOwnCoupling, live?_of_live hr, hc]

theorem checkOwnCoupling_gone (hr : (post.get it.index).content = .live r) (hc : r.coupling = some c)
    (hw : ∀ w, (post.get c.partner).content ≠ .live w) :
    checkOwnCoupling post it = some ⟨.coupled, some it.index⟩ := by
  simp only [checkOwnCoupling, live?_of_live hr, hc, live?_eq_none hw]

theorem checkOwnCoupling_live (hr : (post.get it.index).content = .live r) (hc : r.coupling = some c)
    (hw : (post.get c.partner).content = .live w) : checkOwnCoupling post it =
      if relationHolds c r.kind r.value w.value then none else some ⟨.coupling, some it.index⟩ := by
  simp only [checkOwnCoupling, live?_of_live hr, hc, live?_of_live hw]

theorem checkOwnCoupling_not_live (h : ∀ w, (post.get it.index).content ≠ .live w) :
    checkOwnCoupling post it = none := by
  simp only [checkOwnCoupling, live?_eq_none h]

/-! ### The checks in their order (R93) -/

theorem checkItem_range (ha : checkRange post it = some f) : checkItem deps post it = some f := by
  simp only [checkItem, ha, Option.some_or]

theorem checkItem_tag (ha : checkRange post it = none) (hb : checkTag post it = some f) :
    checkItem deps post it = some f := by
  simp only [checkItem, ha, hb, Option.none_or, Option.some_or]

theorem checkItem_partner (ha : checkRange post it = none) (hb : checkTag post it = none)
    (hc : checkPartner post it = some f) : checkItem deps post it = some f := by
  simp only [checkItem, ha, hb, hc, Option.none_or, Option.some_or]

theorem checkItem_ownCoupling (ha : checkRange post it = none) (hb : checkTag post it = none)
    (hc : checkPartner post it = none) (hd : checkOwnCoupling post it = some f) :
    checkItem deps post it = some f := by
  simp only [checkItem, ha, hb, hc, hd, Option.none_or, Option.some_or]

theorem checkItem_dependents (ha : checkRange post it = none) (hb : checkTag post it = none)
    (hc : checkPartner post it = none) (hd : checkOwnCoupling post it = none) :
    checkItem deps post it = checkDependents deps post it := by
  simp only [checkItem, ha, hb, hc, hd, Option.none_or]

/-- What the checks (b) and (c) ask of a DEFINE (R95, R96). -/
def DefineAccepted (post : Entries) (it : Item) (d : Definition) : Prop :=
  (∀ j q, j ≠ it.index → (post.get j).content = .live q → q.tag ≠ d.tag) ∧
  ∀ c, d.coupling = some c → ∃ w, (post.get c.partner).content = .live w ∧
    w.kind = d.kind ∧ (d.retain = true → w.retain = true)

/-- The checks (b) and (c) concern a DEFINE alone. -/
theorem defineChecks_pass (h : ∀ d, it.change = .define d → DefineAccepted post it d) :
    checkTag post it = none ∧ checkPartner post it = none := by
  by_cases hch : ∃ d, it.change = .define d
  case neg =>
    rw [not_exists] at hch
    exact ⟨checkTag_other hch, checkPartner_other fun d c hd => absurd hd (hch d)⟩
  case pos =>
    obtain ⟨d, hch⟩ := hch
    obtain ⟨hunique, hpartner⟩ := h d hch
    refine ⟨checkTag_unique hch hunique, ?_⟩
    cases hc : d.coupling with
    | none =>
      refine checkPartner_other fun d' c hd' => ?_
      cases hch.symm.trans hd'
      rw [hc]
      exact nofun
    | some c =>
      obtain ⟨w, hw, hkind, hret⟩ := hpartner c hc
      rw [checkPartner_live hch hc hw, if_neg (not_not_intro hkind), if_neg]
      rintro ⟨hd, hnot⟩
      exact nomatch (hret hd).symm.trans hnot

/-! ### Check (e) (R98) -/

theorem checkDependent_gone {j : Index} (h : ∀ r, (post.get j).content ≠ .live r) :
    checkDependent post it j = none := by
  simp only [checkDependent, live?_eq_none h]

theorem checkDependent_retired {j : Index} (hr : (post.get j).content = .live r)
    (h : ∀ w, (post.get it.index).content ≠ .live w) :
    checkDependent post it j = some ⟨.coupled, some j⟩ := by
  simp only [checkDependent, live?_of_live hr, live?_eq_none h]

theorem checkDependent_coupled {j : Index} (hr : (post.get j).content = .live r)
    (hw : (post.get it.index).content = .live w) (hc : r.coupling = some c) :
    checkDependent post it j =
      if relationHolds c r.kind r.value w.value then none else some ⟨.coupling, some j⟩ := by
  simp only [checkDependent, live?_of_live hr, live?_of_live hw, hc]

/-- Check (e) refuses for the first dependent that does not pass. -/
theorem checkDependents_some (h : checkDependents deps post it = some f) : ∃ before j after,
    deps.get it.index = before ++ j :: after ∧ checkDependent post it j = some f ∧
      ∀ e ∈ before, checkDependent post it e = none :=
  List.findSome?_eq_some_iff.1 h

theorem checkDependents_eq_none : checkDependents deps post it = none ↔
    ∀ j ∈ deps.get it.index, checkDependent post it j = none :=
  List.findSome?_eq_none_iff

end

/-! ### The obligation -/

/-- Settles O33: the checks of an item LIVE in the post-state one after the other, and check (e) by its
dependents. -/
theorem releaseChecks : Obligations.ReleaseChecks := by
  refine ⟨fun deps post it r hr => ⟨fun hne hout => ?range, fun hne hin =>
      ⟨fun d hch j q hj hq htag hlow => ?tag, fun hdefine => ⟨fun c hc => ⟨fun w rg hw => ?coupled,
        fun w hw hrel => ?coupling⟩, fun hown => ?dependents⟩⟩,
      fun d c hch hc hin hunique => ⟨fun hkind => ?partner, fun w hw hkind hret hnot => ?retain⟩⟩,
    fun deps post it => ⟨fun d r hr hw => checkDependent_retired hr hw, fun d h => checkDependent_gone h,
      fun d r w c hr hw hc => checkDependent_coupled hr hw hc, fun hch hw => ?retire,
      checkDependents_eq_none, fun f h => checkDependents_some h⟩⟩
  case range =>
    exact checkItem_range ((checkRange_live hr hne).trans (if_neg (ne_true_of_eq_false hout)))
  case tag =>
    have ha := (checkRange_live hr hne).trans (if_pos hin)
    refine checkItem_tag ha (checkTag_taken hch (bearsTag_iff.2 ⟨hj, q, hq, htag⟩) fun k hk hbears => ?_)
    obtain ⟨hkne, x, hx, hxtag⟩ := bearsTag_iff.1 hbears
    exact hlow k x hk hkne hx hxtag
  case coupled =>
    obtain ⟨hb, hp⟩ := defineChecks_pass hdefine
    exact checkItem_ownCoupling ((checkRange_live hr hne).trans (if_pos hin)) hb hp
      (checkOwnCoupling_gone hr hc fun w' hw' => nomatch hw.symm.trans hw')
  case coupling =>
    obtain ⟨hb, hp⟩ := defineChecks_pass hdefine
    exact checkItem_ownCoupling ((checkRange_live hr hne).trans (if_pos hin)) hb hp
      ((checkOwnCoupling_live hr hc hw).trans (if_neg (ne_true_of_eq_false hrel)))
  case dependents =>
    obtain ⟨hb, hp⟩ := defineChecks_pass hdefine
    refine checkItem_dependents ((checkRange_live hr hne).trans (if_pos hin)) hb hp ?_
    cases hc : r.coupling with
    | none => exact checkOwnCoupling_uncoupled hr hc
    | some c =>
      obtain ⟨w, hw, hrel⟩ := hown c hc
      exact (checkOwnCoupling_live hr hc hw).trans (if_pos hrel)
  case partner =>
    have ha := (checkRange_live hr (ne_retire_of_define hch)).trans (if_pos hin)
    refine checkItem_partner ha (checkTag_unique hch hunique) ?_
    by_cases hlive : ∃ w, (post.get c.partner).content = .live w
    · obtain ⟨w, hw⟩ := hlive
      exact (checkPartner_live hch hc hw).trans (if_pos (hkind w hw))
    · exact checkPartner_gone hch hc (not_exists.1 hlive)
  case retain =>
    have ha := (checkRange_live hr (ne_retire_of_define hch)).trans (if_pos hin)
    refine checkItem_partner ha (checkTag_unique hch hunique) ?_
    rw [checkPartner_live hch hc hw, if_neg (not_not_intro hkind), if_pos ⟨hret, hnot⟩]
  case retire =>
    exact checkItem_dependents (checkRange_retire hch)
      (checkTag_other fun d hd => nomatch hch.symm.trans hd)
      (checkPartner_other fun d c hd => nomatch hch.symm.trans hd) (checkOwnCoupling_not_live hw)

end Sys2Proof.Proofs
